-- ==== Sys2Proof/Word.lean ====
section
/-! DEFINITION. The value types of the spec: bits and words (00_scope.md R9), the enumerated types
(R10), the events of the history (R15) and the small tables indexed by a color or a profile (R6). -/

namespace Sys2Proof

/-- `Bit` of R9. A single bit is a truth value: `true` is logical 1. -/
abbrev Bit := Bool
/-- `Nibble` of R9. -/
abbrev Nibble := BitVec 4
/-- `Byte` of R9. -/
abbrev Byte := BitVec 8
/-- `Word16` of R9: one operation word. -/
abbrev Word16 := BitVec 16
/-- An uninterpreted duration (R8, R183): no rule reads one. -/
abbrev Duration := Nat

/-- `Color` of R10. -/
inductive Color where
  | a | b | c | d
  deriving DecidableEq, Repr

/-- `Dir` of R10: the direction of the `DATA` line. -/
inductive Dir where
  | output | input
  deriving DecidableEq, Repr

/-- `Profile` of R10. Code 11 is reserved and names no profile. -/
inductive Profile where
  | dr | fast | wr
  deriving DecidableEq, Repr

/-- The frame a `SEND_FRAME` selects (R36, R67). -/
inductive FrameId where
  | header | trailer
  deriving DecidableEq, Repr

/-- The direction of a transition of an input pin (`TRIG_EDGE` of R6, R20). -/
inductive EdgeKind where
  | rising | falling
  deriving DecidableEq, Repr

/-- `Outcome` of R10 and R140: the result of one cycle. -/
inductive CycleOutcome where
  | success (color : Color)
  | notFound
  | readInvalid
  | writeVerifyFailed
  deriving DecidableEq, Repr

/-- An event of the history `H` (R15). -/
inductive Event where
  /-- the logical enable level became `b` -/
  | en (b : Bit)
  /-- the data direction became `d` -/
  | dir (d : Dir)
  /-- one transmitted bit cycle with data value `v` -/
  | tx (v : Bit) (p : Profile)
  /-- one received bit cycle in which `v` was sampled -/
  | rx (v : Bit) (p : Profile)
  /-- one post-byte settle delay -/
  | settle
  /-- one outcome sent to the reporter -/
  | report (kind : Bit) (arg : BitVec 2)
  deriving DecidableEq, Repr

/-- One value for each color (the per-color parameters of R6). -/
structure PerColor (α : Type) where
  a : α
  b : α
  c : α
  d : α
  deriving DecidableEq, Repr

/-- The value a per-color table gives color `c`. -/
def PerColor.get {α : Type} (t : PerColor α) : Color → α
  | .a => t.a
  | .b => t.b
  | .c => t.c
  | .d => t.d

/-- One value for each timing profile (`tLow(p)`, `tHigh(p)` of R6). -/
structure PerProfile (α : Type) where
  dr : α
  fast : α
  wr : α
  deriving DecidableEq, Repr

/-- The value a per-profile table gives profile `p`. -/
def PerProfile.get {α : Type} (t : PerProfile α) : Profile → α
  | .dr => t.dr
  | .fast => t.fast
  | .wr => t.wr

end Sys2Proof
end

