-- ==== Sys2Proof/Syntax.lean ====
section
/-! DEFINITION. The operations: one constructor per row of spec/opcode_table.json (30_encoding.md
R71), the reserved opcodes among them. -/

namespace Sys2Proof

/-- An operation of CCPE. The two rows of `REPORT` are two constructors. A word of a reserved opcode
(R75) is a constructor of its own that keeps the word's low eleven bits. -/
inductive Instr where
  | pulseArm
  | enOff
  | setDir (d : Dir)
  | sendBit (p : Profile) (v : Bit)
  | recvBit (p : Profile)
  | settle
  | sense
  | discover
  | sendFrame (f : FrameId)
  | readBlock (p : Profile)
  | verify
  | buildPayload
  | writePayload
  | readbackCmp
  | clearBuf
  | waitGo
  | arm
  | reportSuccess
  | reportError (a : BitVec 2)
  | jmp (t : BitVec 8)
  | brf (t : BitVec 8)
  | reserved00 (low : BitVec 11)
  | reserved15 (low : BitVec 11)
  | reserved16 (low : BitVec 11)
  | reserved17 (low : BitVec 11)
  | reserved18 (low : BitVec 11)
  | reserved19 (low : BitVec 11)
  | reserved1A (low : BitVec 11)
  | reserved1B (low : BitVec 11)
  | reserved1C (low : BitVec 11)
  | reserved1D (low : BitVec 11)
  | reserved1E (low : BitVec 11)
  | reserved1F (low : BitVec 11)
  deriving DecidableEq, Repr

end Sys2Proof
end

