-- ==== Sys2Proof/WellFormed.lean ====
section
/-! DEFINITION. Which terms of `Instr` an operation word can stand for (30_encoding.md R69). Every
other field of an operation has a type that admits exactly the values its encoding admits. -/

namespace Sys2Proof

/-- R69: the sub-code of `REPORT error` is 1, 2 or 3; `K = 1` with `A = 0` is no operation. -/
def Instr.wf : Instr → Bool
  | .reportError a => a != 0
  | .pulseArm | .enOff | .setDir _ | .sendBit _ _ | .recvBit _ | .settle | .sense | .discover
  | .sendFrame _ | .readBlock _ | .verify | .buildPayload | .writePayload | .readbackCmp
  | .clearBuf | .waitGo | .arm | .reportSuccess | .jmp _ | .brf _ => true
  | .reserved00 _ | .reserved15 _ | .reserved16 _ | .reserved17 _ | .reserved18 _ | .reserved19 _
  | .reserved1A _ | .reserved1B _ | .reserved1C _ | .reserved1D _ | .reserved1E _
  | .reserved1F _ => true

/-- Whether the constructor stands for a row of a reserved opcode (R75), whose words "have no
instruction". -/
def Instr.isReserved : Instr → Bool
  | .reserved00 _ | .reserved15 _ | .reserved16 _ | .reserved17 _ | .reserved18 _ | .reserved19 _
  | .reserved1A _ | .reserved1B _ | .reserved1C _ | .reserved1D _ | .reserved1E _
  | .reserved1F _ => true
  | .pulseArm | .enOff | .setDir _ | .sendBit _ _ | .recvBit _ | .settle | .sense | .discover
  | .sendFrame _ | .readBlock _ | .verify | .buildPayload | .writePayload | .readbackCmp
  | .clearBuf | .waitGo | .arm | .reportSuccess | .reportError _ | .jmp _ | .brf _ => false

end Sys2Proof
end

