-- ==== Sys2Proof/Decode.lean ====
section
/-! DEFINITION. The decoder of 30_encoding.md R72, total on 16-bit words and rejecting by name, and the
encoder of R63 to R71 after it. -/

namespace Sys2Proof

/-- Why a word of a listed opcode is no operation (R74). The reserved opcodes are not errors of the
decoder: their words decode to the reserved constructors, whose meaning is the same IllegalOp. -/
inductive DecodeError where
  /-- a must-be-zero bit is 1 (R63) -/
  | mustBeZero
  /-- the profile field is 11 (R64) -/
  | reservedProfile
  /-- `K = 0` with `A ≠ 0`, or `K = 1` with `A = 0` (R69) -/
  | illegalReport
  deriving DecidableEq, Repr

/-- `OPC = w[15:11]` (R62). -/
def opcodeField (w : Word16) : BitVec 5 := w.extractLsb' 11 5

/-- The operand bits `r = w[10:0]` (R62). -/
def operandField (w : Word16) : BitVec 11 := w.extractLsb' 0 11

/-- Format N: `[10:0]` MBZ. -/
def decodeN (i : Instr) (r : BitVec 11) : Except DecodeError Instr :=
  if r = 0 then .ok i else .error .mustBeZero

/-- R65. -/
def dirOfBit (b : Bit) : Dir := if b then .input else .output

/-- R67. -/
def frameOfBit (b : Bit) : FrameId := if b then .trailer else .header

/-- Formats D and F: a one-bit field `[0]`, `[10:1]` MBZ. -/
def decodeBit0 (mk : Bit → Instr) (r : BitVec 11) : Except DecodeError Instr :=
  if r.extractLsb' 1 10 = 0 then .ok (mk (r.getLsbD 0)) else .error .mustBeZero

/-- R64: the profile a 2-bit `P` selects; 11 selects none. -/
def profileOfField (p : BitVec 2) : Option Profile :=
  if p = 0 then some .dr else if p = 1 then some .fast else if p = 2 then some .wr else none

/-- Format BS: `P = [2:1]`, `V = [0]`, `[10:3]` MBZ. -/
def decodeBS (mk : Profile → Bit → Instr) (r : BitVec 11) : Except DecodeError Instr :=
  if r.extractLsb' 3 8 = 0 then
    match profileOfField (r.extractLsb' 1 2) with
    | some p => .ok (mk p (r.getLsbD 0))
    | none => .error .reservedProfile
  else .error .mustBeZero

/-- Format P: `P = [2:1]`, `[10:3]` and `[0]` MBZ. -/
def decodeP (mk : Profile → Instr) (r : BitVec 11) : Except DecodeError Instr :=
  if r.extractLsb' 3 8 = 0 ∧ r.getLsbD 0 = false then
    match profileOfField (r.extractLsb' 1 2) with
    | some p => .ok (mk p)
    | none => .error .reservedProfile
  else .error .mustBeZero

/-- Format T: `T = [7:0]`, `[10:8]` MBZ. -/
def decodeT (mk : BitVec 8 → Instr) (r : BitVec 11) : Except DecodeError Instr :=
  if r.extractLsb' 8 3 = 0 then .ok (mk (r.extractLsb' 0 8)) else .error .mustBeZero

/-- Format RP: `K = [10]`, `A = [1:0]`, `[9:2]` MBZ (R69). -/
def decodeRP (r : BitVec 11) : Except DecodeError Instr :=
  if r.extractLsb' 2 8 = 0 then
    match r.getLsbD 10, decide (r.extractLsb' 0 2 = 0) with
    | false, true => .ok .reportSuccess
    | true, false => .ok (.reportError (r.extractLsb' 0 2))
    | _, _ => .error .illegalReport
  else .error .mustBeZero

/-- `decode` of R72. The reserved opcodes (R75) keep their low bits. -/
def decode (w : Word16) : Except DecodeError Instr :=
  let r := operandField w
  match (opcodeField w).toNat with
  | 0x00 => .ok (.reserved00 r)
  | 0x01 => decodeN .pulseArm r
  | 0x02 => decodeN .enOff r
  | 0x03 => decodeBit0 (fun b => .setDir (dirOfBit b)) r
  | 0x04 => decodeBS .sendBit r
  | 0x05 => decodeP .recvBit r
  | 0x06 => decodeN .settle r
  | 0x07 => decodeN .sense r
  | 0x08 => decodeN .discover r
  | 0x09 => decodeBit0 (fun b => .sendFrame (frameOfBit b)) r
  | 0x0A => decodeP .readBlock r
  | 0x0B => decodeN .verify r
  | 0x0C => decodeN .buildPayload r
  | 0x0D => decodeN .writePayload r
  | 0x0E => decodeN .readbackCmp r
  | 0x0F => decodeN .clearBuf r
  | 0x10 => decodeN .waitGo r
  | 0x11 => decodeN .arm r
  | 0x12 => decodeRP r
  | 0x13 => decodeT .jmp r
  | 0x14 => decodeT .brf r
  | 0x15 => .ok (.reserved15 r)
  | 0x16 => .ok (.reserved16 r)
  | 0x17 => .ok (.reserved17 r)
  | 0x18 => .ok (.reserved18 r)
  | 0x19 => .ok (.reserved19 r)
  | 0x1A => .ok (.reserved1A r)
  | 0x1B => .ok (.reserved1B r)
  | 0x1C => .ok (.reserved1C r)
  | 0x1D => .ok (.reserved1D r)
  | 0x1E => .ok (.reserved1E r)
  | _ => .ok (.reserved1F r)

/-- Whether `w` is one of the legal words of R71: it decodes to an operation. -/
def isLegalWord (w : Word16) : Bool :=
  match decode w with
  | .ok i => !i.isReserved
  | .error _ => false

/-! The encoder. -/

/-- R65. -/
def bitOfDir : Dir → Bit
  | .output => false
  | .input => true

/-- R67. -/
def bitOfFrame : FrameId → Bit
  | .header => false
  | .trailer => true

/-- R64. -/
def fieldOfProfile : Profile → BitVec 2
  | .dr => 0b00
  | .fast => 0b01
  | .wr => 0b10

/-- A word from its opcode and its operand bits (R62). -/
def wordOf (opc : BitVec 5) (r : BitVec 11) : Word16 := opc ++ r

/-- Formats D and F. -/
def operandBit0 (b : Bit) : BitVec 11 := 0#10 ++ BitVec.ofBool b

/-- Format BS. -/
def operandBS (p : BitVec 2) (v : Bit) : BitVec 11 := 0#8 ++ (p ++ BitVec.ofBool v)

/-- Format T. -/
def operandT (t : BitVec 8) : BitVec 11 := 0#3 ++ t

/-- Format RP. -/
def operandRP (k : Bit) (a : BitVec 2) : BitVec 11 := BitVec.ofBool k ++ (0#8 ++ a)

/-- The opcode of R71 of each operation. -/
def Instr.opcode : Instr → BitVec 5
  | .pulseArm => 0x01
  | .enOff => 0x02
  | .setDir _ => 0x03
  | .sendBit _ _ => 0x04
  | .recvBit _ => 0x05
  | .settle => 0x06
  | .sense => 0x07
  | .discover => 0x08
  | .sendFrame _ => 0x09
  | .readBlock _ => 0x0A
  | .verify => 0x0B
  | .buildPayload => 0x0C
  | .writePayload => 0x0D
  | .readbackCmp => 0x0E
  | .clearBuf => 0x0F
  | .waitGo => 0x10
  | .arm => 0x11
  | .reportSuccess => 0x12
  | .reportError _ => 0x12
  | .jmp _ => 0x13
  | .brf _ => 0x14
  | .reserved00 _ => 0x00
  | .reserved15 _ => 0x15
  | .reserved16 _ => 0x16
  | .reserved17 _ => 0x17
  | .reserved18 _ => 0x18
  | .reserved19 _ => 0x19
  | .reserved1A _ => 0x1A
  | .reserved1B _ => 0x1B
  | .reserved1C _ => 0x1C
  | .reserved1D _ => 0x1D
  | .reserved1E _ => 0x1E
  | .reserved1F _ => 0x1F

/-- The operand bits of each operation, in its format of R63. -/
def Instr.operands : Instr → BitVec 11
  | .setDir d => operandBit0 (bitOfDir d)
  | .sendBit p v => operandBS (fieldOfProfile p) v
  | .recvBit p => operandBS (fieldOfProfile p) false
  | .sendFrame f => operandBit0 (bitOfFrame f)
  | .readBlock p => operandBS (fieldOfProfile p) false
  | .reportSuccess => operandRP false 0
  | .reportError a => operandRP true a
  | .jmp t => operandT t
  | .brf t => operandT t
  | .reserved00 low | .reserved15 low | .reserved16 low | .reserved17 low | .reserved18 low
  | .reserved19 low | .reserved1A low | .reserved1B low | .reserved1C low | .reserved1D low
  | .reserved1E low | .reserved1F low => low
  | .pulseArm | .enOff | .settle | .sense | .discover | .verify | .buildPayload | .writePayload
  | .readbackCmp | .clearBuf | .waitGo | .arm => 0

/-- The word of an operation (R62, R63, R71). -/
def encode (i : Instr) : Word16 := wordOf i.opcode i.operands

/-- The instruction the decoder reads from the `nbits` table bits `w`: the word has 16 bits, every bit
above `nbits` is 0, and bit 0 of `w` is bit 0 of the word. -/
def decodeTableWord (nbits w : Nat) : Option Instr :=
  match decode (BitVec.ofNat 16 (w % 2 ^ nbits)) with
  | .ok i => some i
  | .error _ => none

end Sys2Proof
end

