-- ==== Sys2Proof/Config.lean ====
section
/-! DEFINITION. The configuration record of 00_scope.md R6 as plain data, the sizes the rules fix,
and the free values: one opaque constant for each parameter the spec leaves OPEN and for the chip's
answers (R16). The default record and the ROM's contents stand in Machine/Defaults.lean, the
well-formedness check of R7 in Machine/ConfigCheck.lean. -/

namespace Sys2Proof

/-- The configuration record of R6, "fixed when the block is built". Every operation reads its
constants from here, so a statement over all states holds for every configuration. The ROM, the
record's last row, is the field `rom` of the machine's state. -/
structure Config where
  /-- `ReadAddr(c)` -/
  readAddr : PerColor Byte
  /-- `WriteAddr(c)` -/
  writeAddr : PerColor Byte
  /-- `ACK` -/
  ack : Nibble
  /-- `ExpectedId(c)`, for image offsets 12 and 13 -/
  expectedId : PerColor (Byte × Byte)
  /-- `TrailerSig`, for image offsets 29, 30 and 31 -/
  trailerSig : Vector Byte 3
  /-- `HeaderFrame` -/
  headerFrame : Vector Byte 10
  /-- `TrailerFrame` -/
  trailerFrame : Vector Byte 10
  /-- `tLow(p)` -/
  tLow : PerProfile Duration
  /-- `tHigh(p)` -/
  tHigh : PerProfile Duration
  tArmHold : Duration
  tArmGap : Duration
  tSettle : Duration
  /-- the level of the `EN` pin that means asserted -/
  enActiveLevel : Bit
  /-- the level of the `GND_DET` pin that means "chip present" -/
  presentLevel : Bit
  /-- the direction of a `TRIG` transition that is an edge -/
  trigEdge : EdgeKind
  deriving DecidableEq, Repr

/-! The sizes of R6 that every rule writes as a literal (log entry 3). -/

/-- `N_COLORS` -/
def Config.nColors : Nat := 4
/-- `IMAGE_SIZE` -/
def Config.imageSize : Nat := 32
/-- `PAYLOAD_SIZE` -/
def Config.payloadSize : Nat := 4
/-- `FRAME_SIZE` -/
def Config.frameSize : Nat := 10
/-- `PAYLOAD_BASE`: the payload is image offsets 1 to 4 -/
def Config.payloadBase : Nat := 1
/-- `COUNTER_OFFSET` -/
def Config.counterOffset : Nat := 3
/-- `ID_OFFSETS` -/
def Config.idOffsets : List Nat := [12, 13]
/-- `TRAILER_OFFSETS` -/
def Config.trailerOffsets : List Nat := [29, 30, 31]

/-! The OPEN parameters of R6: free values, with no body (log entries 4 and 5). -/

/-- `ExpectedId(c)`, OPEN for B, C and D (D15). -/
opaque Config.openExpectedId : Color → Byte × Byte
/-- `tLow(p)`, OPEN (D9). -/
opaque Config.openTLow : Profile → Duration
/-- `tHigh(p)`, OPEN (D9). -/
opaque Config.openTHigh : Profile → Duration
/-- `tArmHold`, OPEN (D9). -/
opaque Config.openTArmHold : Duration
/-- `tArmGap`, OPEN (D9). -/
opaque Config.openTArmGap : Duration
/-- `tSettle`, OPEN (D9). -/
opaque Config.openTSettle : Duration
/-- `EN_ACTIVE_LEVEL`, OPEN (D31). -/
opaque Config.openEnActiveLevel : Bit
/-- `PRESENT_LEVEL`, OPEN (D31). -/
opaque Config.openPresentLevel : Bit
/-- `TRIG_EDGE` is rising exactly when this is 1, OPEN (D31). -/
opaque Config.openTrigEdgeRising : Bit

/-- The chip oracle of R16 past the answers the state lists: it sees the history up to that point and
a free choice, and returns one bit. No law is placed on it (log entry 6). -/
opaque Config.chipOracle : List Event → Nat → Bit

end Sys2Proof
end

