-- ==== Sys2Proof/Machine/ConfigCheck.lean ====
section
/-! DEFINITION. The well-formedness of a configuration (00_scope.md R7). -/

namespace Sys2Proof.Machine

/-- Bits 7 to 4 of an address byte: the only part of it that reaches the wire (R52, R98, R118). -/
def topNibble (x : Byte) : Nibble := x.extractLsb' 4 4

/-- The table's four values, in the order A, B, C, D. -/
def perColorValues {α : Type} (t : PerColor α) : List α := [t.a, t.b, t.c, t.d]

/-- The values of the list are pairwise distinct. -/
def allDistinct {α : Type} [DecidableEq α] : List α → Bool
  | [] => true
  | x :: xs => !xs.contains x && allDistinct xs

/-- No value is in both lists. -/
def noneShared {α : Type} [DecidableEq α] (xs ys : List α) : Bool := xs.all (fun x => !ys.contains x)

/-- R7 (a) and (b): the addresses are injective over the colors. -/
def addrsInjective (t : PerColor Byte) : Bool := allDistinct (perColorValues t)

/-- R7 (d) and (e): the top nibbles of the addresses are pairwise distinct. -/
def nibblesInjective (t : PerColor Byte) : Bool := allDistinct ((perColorValues t).map topNibble)

/-- R7 (a) to (f): the configurations a model accepts. -/
def configWf (g : Config) : Bool :=
  addrsInjective g.readAddr && addrsInjective g.writeAddr
    && noneShared (perColorValues g.readAddr) (perColorValues g.writeAddr)
    && nibblesInjective g.readAddr && nibblesInjective g.writeAddr
    && noneShared ((perColorValues g.readAddr).map topNibble)
        ((perColorValues g.writeAddr).map topNibble)

end Sys2Proof.Machine
end

