-- ==== Sys2Proof/Machine/Defaults.lean ====
section
/-! DEFINITION. The contents the spec gives the block as built: the default configuration record of
00_scope.md R6 and the cycle program of 45_sequencer.md R131. -/

namespace Sys2Proof.Machine

/-- `ExpectedId`: A's bytes are (0x27, 0x03); B's, C's and D's are OPEN (R6, D15). -/
def defaultExpectedId : PerColor (Byte × Byte) :=
  { a := (0x27, 0x03)
    b := Config.openExpectedId .b
    c := Config.openExpectedId .c
    d := Config.openExpectedId .d }

/-- The default configuration record of R6. -/
def defaultConfig : Config :=
  { readAddr := { a := 0x27, b := 0xA7, c := 0xE7, d := 0x67 }
    writeAddr := { a := 0x3F, b := 0xBF, c := 0xFF, d := 0x7F }
    ack := 0xC
    expectedId := defaultExpectedId
    trailerSig := #v[0x65, 0x67, 0x66]
    headerFrame := #v[0x06, 0x00, 0x11, 0x60, 0x01, 0x06, 0x00, 0x11, 0x60, 0x00]
    trailerFrame := #v[0x06, 0x00, 0x01, 0x60, 0x01, 0x06, 0x00, 0x11, 0x60, 0x00]
    tLow :=
      { dr := Config.openTLow .dr, fast := Config.openTLow .fast, wr := Config.openTLow .wr }
    tHigh :=
      { dr := Config.openTHigh .dr, fast := Config.openTHigh .fast, wr := Config.openTHigh .wr }
    tArmHold := Config.openTArmHold
    tArmGap := Config.openTArmGap
    tSettle := Config.openTSettle
    enActiveLevel := Config.openEnActiveLevel
    presentLevel := Config.openPresentLevel
    trigEdge := if Config.openTrigEdgeRising then .rising else .falling }

/-- The words of the cycle program at 0x00 to 0x16 (R131). -/
def cycleProgram : List Word16 :=
  [ 0x8000,   -- 00 IDLE: WAIT_GO
    0x4800,   -- 01       SEND_FRAME header
    0x4000,   -- 02       DISCOVER
    0xA00E,   -- 03       BRF NF
    0x5000,   -- 04       READ_BLOCK dr
    0x5800,   -- 05       VERIFY
    0xA010,   -- 06       BRF RI
    0x6000,   -- 07       BUILD_PAYLOAD
    0x6800,   -- 08       WRITE_PAYLOAD
    0x5002,   -- 09       READ_BLOCK fast
    0x7000,   -- 0A       READBACK_CMP
    0xA012,   -- 0B       BRF WVF
    0x9000,   -- 0C       REPORT success
    0x9813,   -- 0D       JMP TAIL
    0x9401,   -- 0E NF:   REPORT error, 1
    0x9813,   -- 0F       JMP TAIL
    0x9402,   -- 10 RI:   REPORT error, 2
    0x9813,   -- 11       JMP TAIL
    0x9403,   -- 12 WVF:  REPORT error, 3
    0x4801,   -- 13 TAIL: SEND_FRAME trailer
    0x7800,   -- 14       CLEAR_BUF
    0x8800,   -- 15       ARM
    0x9800 ]  -- 16       JMP IDLE

/-- What a ROM address holds unless the state lists another word for it: the cycle program, and 0x0000
after it (R37, R50, R131). -/
def romDefault (a : Nat) : Word16 := cycleProgram.getD a 0

end Sys2Proof.Machine
end

