-- ==== Sys2Proof/Machine/State.lean ====
section
/-! DEFINITION. The state of the machine as plain data: the architectural state of 10_state.md R39
(`Arch`), and beside it what R40 makes a parameter of the step relation (`Env`): the configuration, the
ROM, the inputs and the chip's answers. The reasons a step can stop, and the state after reset. -/

namespace Sys2Proof.Machine

/-- One listed word of the ROM: its address and the word (20_memory.md R41: the ROM's unit is the
16-bit word). -/
abbrev RomCell := Nat × Word16

/-- The ROM in canonical form: the addresses that hold another word than `romDefault`, rising. -/
abbrev Memory := List RomCell

/-- The architectural state: the fields of the tuple of R39 and the history `H`, and no others. -/
structure Arch where
  /-- microprogram counter (R22) -/
  upc : BitVec 8
  /-- clock line level (R23) -/
  clk : Bit
  /-- data output latch (R23) -/
  dataOut : Bit
  /-- data direction (R23) -/
  dir : Dir
  /-- logical enable level (R23) -/
  en : Bit
  /-- receive register (R25) -/
  rxb : Byte
  /-- status of the last stage operation (R26) -/
  statOk : Bit
  /-- a chip was discovered (R27) -/
  found : Bit
  /-- its color (R27) -/
  color : Color
  /-- `IMG` holds a verified image (R28) -/
  imgValid : Bit
  /-- `PAY` holds a payload built in this cycle (R29) -/
  payValid : Bit
  /-- the CartridgeMemoryImage (R34) -/
  img : Vector Byte 32
  /-- the ResetPayload (R35) -/
  pay : Vector Byte 4
  /-- trigger-source enable (R30) -/
  trigEn : Bit
  /-- the trigger source's latch of an edge (R30) -/
  edgePend : Bit
  /-- PendingTrigger (R30) -/
  go : Bit
  /-- an outcome has been reported since reset (R31) -/
  outValid : Bit
  /-- outcome kind: 0 success, 1 error (R31) -/
  outKind : Bit
  /-- color index or error sub-code (R31) -/
  outArg : BitVec 2
  /-- the engine has faulted (R32) -/
  fault : Bit
  /-- fault cause code (R32, R143) -/
  fcause : BitVec 3
  /-- `upc` of the faulting operation (R32) -/
  fupc : BitVec 8
  /-- the event history `H`, oldest event first (R15) -/
  hist : List Event
  deriving DecidableEq, Repr

/-- One turn of the total order of steps (R14, R54), or a change of an input. -/
inductive Turn where
  /-- the engine is given a turn (R124) -/
  | engine
  /-- a TRIG edge arrives (R147) -/
  | edge
  /-- the trigger unit is given a turn to deliver (R148) -/
  | deliver
  /-- the `GND_DET` input takes the logical level `b` (R20, R24) -/
  | setPresent (b : Bit)
  /-- the `RESET` input takes the level `b` (R18, R166) -/
  | setReset (b : Bit)
  deriving DecidableEq, Repr

/-- What R40 calls "parameters of the step relation", held as plain data so that one function of the
state is the step. None of it is architectural state (log entries 1, 2, 6 and 7). -/
structure Env where
  /-- the configuration record (R6) -/
  cfg : Config
  /-- the ROM contents (R37, R40) -/
  rom : Memory
  /-- the logical level of `GND_DET` (R24) -/
  present : Bit
  /-- the level of the `RESET` input (R18) -/
  resetIn : Bit
  /-- the turns that come next, first one first (R14; decision D36) -/
  agenda : List Turn
  /-- the bits the chip answers next, first one first (R16) -/
  answers : List Bit
  /-- the free choice the chip oracle reads past those answers (R16): how many bits were drawn -/
  choice : Nat
  deriving DecidableEq, Repr

/-- The state of the machine: plain data. -/
structure State extends Arch, Env
  deriving DecidableEq, Repr

/-- Why a step stops with a fault. A fault of CCPE itself is no such stop: it is a next state with
`FAULT = 1` (60_exceptions.md R142). -/
inductive Fault where
  /-- Raised by `step` when `FAULT = 1`, the agenda is empty and no delivery is enabled: nothing can
  step until reset, the `stuck` of 93_implementation_defined.md row 8 (R146). Safe: the machine stops
  exactly where no agent has an enabled step and no input is to come (log entry 9). -/
  | engineHalted
  deriving DecidableEq, Repr

/-- Why a step refuses. -/
inductive Refusal where
  /-- Raised by an arm of `exec` for an operation that has no meaning yet; no arm does. Safe. -/
  | notModelled (mnemonic : String)
  /-- Raised by `step` when the configuration breaks 00_scope.md R7, which says that a model must
  refuse it. Safe: the spec gives such a block no behaviour. -/
  | illFormedConfig
  deriving DecidableEq, Repr

/-- The reset values of the architectural state (70_reset_and_hazards.md R166): every field zero but
`CLK = 1` and `TRIG_EN = 1`; the history is empty. -/
def Arch.reset : Arch :=
  { upc := 0
    clk := true
    dataOut := false
    dir := .output
    en := false
    rxb := 0
    statOk := false
    found := false
    color := .a
    imgValid := false
    payValid := false
    img := Vector.replicate 32 0
    pay := Vector.replicate 4 0
    trigEn := true
    edgePend := false
    go := false
    outValid := false
    outKind := false
    outArg := 0
    fault := false
    fcause := 0
    fupc := 0
    hist := [] }

/-- The surroundings the model starts from: the default configuration and ROM; no chip present, RESET
released, no turn scheduled and no answer listed (DESIGN CHOICE, log entry 8). -/
def Env.initial : Env :=
  { cfg := defaultConfig
    rom := []
    present := false
    resetIn := false
    agenda := []
    answers := []
    choice := 0 }

/-- The machine right after reset (R166). -/
def State.reset : State := { toArch := Arch.reset, toEnv := Env.initial }

end Sys2Proof.Machine
end

