-- ==== Sys2Proof/Machine/Ops.lean ====
section
/-! DEFINITION. The named operations the meanings share: the ROM and its fetch, the microprogram
counter, the history, the line procedures of 40_bit_io.md section 1, taking a fault, the reset that
leaves one, and the two steps of the trigger unit. -/

namespace Sys2Proof.Machine

/-! ### The ROM (20_memory.md R41, R47) -/

/-- The word at address `a`: the listed one, else the default contents. -/
def Memory.read (m : Memory) (a : Nat) : Word16 :=
  match m with
  | [] => romDefault a
  | (b, v) :: rest => if a = b then v else Memory.read rest a

/-- Entry (`a`, `w`) before `rest`, left out when `a` reads as `w` unlisted. -/
def Memory.cons (a : Nat) (w : Word16) (rest : Memory) : Memory :=
  if w = romDefault a then rest else (a, w) :: rest

/-- The ROM with `w` at address `a`, in canonical form. No operation does this (R60): a ROM is given
its contents from outside, when the block is built. -/
def Memory.write (m : Memory) (a : Nat) (w : Word16) : Memory :=
  match m with
  | [] => Memory.cons a w []
  | (b, v) :: rest =>
    if a < b then Memory.cons a w ((b, v) :: rest)
    else if a = b then Memory.cons a w rest
    else (b, v) :: Memory.write rest a w

/-- Every listed address is at least `lo` and below 256, the addresses rise, and no entry equals what
its address reads as unlisted. -/
def Memory.wfFrom (lo : Nat) : Memory → Bool
  | [] => true
  | (a, w) :: rest =>
    decide (lo ≤ a) && decide (a < 256) && (w != romDefault a) && Memory.wfFrom (a + 1) rest

/-- The canonical form of the ROM. -/
def Memory.wf (m : Memory) : Bool := Memory.wfFrom 0 m

/-- `Fetch(a)` (R47): the whole word at `a`, without a side effect and without a fault. -/
def fetchAt (s : State) (a : BitVec 8) : Word16 := s.rom.read a.toNat

/-- `Fetch(upc)` (R124). -/
def fetch (s : State) : Word16 := fetchAt s s.upc

/-! ### The microprogram counter -/

/-- `next` of R11 and R22: `upc <- (upc + 1) mod 256`. -/
def advance (s : State) : State := { s with upc := s.upc + 1 }

/-- `upc <- t` of R11. -/
def jumpTo (t : BitVec 8) (s : State) : State := { s with upc := t }

/-! ### The history and the line procedures -/

/-- `Emit(e)` of R11: appends `e` to the history. -/
def emit (e : Event) (s : State) : State := { s with hist := s.hist ++ [e] }

/-- `SetEn(b)` (R80): an event only when the level changes. -/
def setEn (b : Bit) (s : State) : State :=
  if s.en != b then emit (.en b) { s with en := b } else s

/-- `SetDir(d)` (R81): an event only when the direction changes. -/
def setDir (d : Dir) (s : State) : State :=
  if s.dir != d then emit (.dir d) { s with dir := d } else s

/-- `PulseArm()` (R82). The waits are timing annotations (R8). -/
def pulseArm (s : State) : State :=
  let s := setEn true s
  let s := emit (.en false) { s with en := false }
  emit (.en true) { s with en := true }

/-- `Tx(v, p)` (R83): CLK falls, DATA takes `v`, CLK rises. -/
def tx (v : Bit) (p : Profile) (s : State) : State :=
  let s := { s with clk := false }
  let s := { s with dataOut := v }
  let s := { s with clk := true }
  emit (.tx v p) s

/-- `Oracle(H, choice)` (R16): the listed answer, else the opaque oracle's. -/
def chipAnswer (s : State) : Bit :=
  match s.answers with
  | b :: _ => b
  | [] => Config.chipOracle s.hist s.choice

/-- The answer has been drawn. -/
def consumeAnswer (s : State) : State :=
  { s with answers := s.answers.tail, choice := s.choice + 1 }

/-- `Rx(p)` (R84): CLK falls, the chip's bit is sampled, CLK rises. -/
def rx (p : Profile) (s : State) : Bit × State :=
  let s := { s with clk := false }
  let b := chipAnswer s
  let s := consumeAnswer s
  let s := { s with clk := true }
  (b, emit (.rx b p) s)

/-- `SendBits(x, n, p)` (R85): `Tx(x[n-1])` first and `Tx(x[0])` last. -/
def sendBits {w : Nat} (x : BitVec w) (n : Nat) (p : Profile) (s : State) : State :=
  match n with
  | 0 => s
  | i + 1 => sendBits x i p (tx (x.getLsbD i) p s)

/-- The loop of `RecvBits` (R86): `n` times `v <- (v << 1) | Rx(p)`. -/
def recvLoop {w : Nat} (n : Nat) (v : BitVec w) (p : Profile) (s : State) : BitVec w × State :=
  match n with
  | 0 => (v, s)
  | k + 1 =>
    let (b, s) := rx p s
    recvLoop k ((v <<< 1) ||| (BitVec.ofBool b).setWidth w) p s

/-- `RecvBits(n, p)` (R86): `n` bits, the first one received in bit `n - 1`. -/
def recvBits (n : Nat) (p : Profile) (s : State) : BitVec n × State := recvLoop n 0 p s

/-- `Settle()` (R87): an event, and no register. -/
def settle (s : State) : State := emit .settle s

/-- `SendBits(x, 8, p)` for each byte, in rising index order (R44). -/
def sendBytes (xs : List Byte) (p : Profile) (s : State) : State :=
  match xs with
  | [] => s
  | x :: rest => sendBytes rest p (sendBits x 8 p s)

/-! ### Faults and reset -/

/-- The causes of R143. -/
inductive FaultCause where
  | illegalOp
  | directionError
  | noChip
  | noValidImage
  | noPayload
  deriving DecidableEq, Repr

/-- `FCAUSE` codes (R143). -/
def causeCode : FaultCause → BitVec 3
  | .illegalOp => 1
  | .directionError => 2
  | .noChip => 3
  | .noValidImage => 4
  | .noPayload => 5

/-- `raise Fault(cause)` (R142): the three fault registers and nothing else; `upc` stays. CCPE saves no
other state, changes no mode and has no vector (R155). -/
def raiseFault (c : FaultCause) (s : State) : State :=
  { s with fault := true, fcause := causeCode c, fupc := s.upc }

/-- Reset (R166), the only return from a fault (R156): every field of the state tuple takes its reset
value and the history restarts; what lies outside the block is untouched. -/
def applyReset (s : State) : State := { s with toArch := Arch.reset }

/-! ### The trigger unit -/

/-- `EdgeStep` (R147), at a TRIG edge, whatever `TRIG_EN` is. -/
def edgeStep (s : State) : State := { s with edgePend := true }

/-- When `DeliverStep` is enabled (R148). -/
def deliverEnabled (s : State) : Bool := s.trigEn && s.edgePend

/-- `DeliverStep` (R148), where it is enabled. -/
def deliverStep (s : State) : State := { s with go := true, edgePend := false }

end Sys2Proof.Machine
end

