-- ==== Sys2Proof/Machine/Operands.lean ====
section
/-! DEFINITION. What an operand or a register selects among the configuration's constants
(30_encoding.md R64 to R70), and the codes of the enumerated types (00_scope.md R10). -/

namespace Sys2Proof.Machine

/-- The encoding of a color (R10). -/
def colorCode : Color → BitVec 2
  | .a => 0
  | .b => 1
  | .c => 2
  | .d => 3

/-- The color of a code (R10). -/
def colorOfCode (x : BitVec 2) : Color :=
  if x = 0 then .a else if x = 1 then .b else if x = 2 then .c else .d

/-- The encoding of a direction (R10). -/
def dirCode : Dir → Bit
  | .output => false
  | .input => true

/-- The probe order (R10, R101). -/
def probeOrder : List Color := [.a, .b, .c, .d]

/-- `IdNibble(c) = ReadAddr(c)[7:4]` (R17, R110): the nibble a read or a probe sends. -/
def idNibble (g : Config) (col : Color) : Nibble := topNibble (g.readAddr.get col)

/-- `WriteAddr(c)[7:4]` (R118): the nibble a write sends. -/
def writeNibble (g : Config) (col : Color) : Nibble := topNibble (g.writeAddr.get col)

/-- `FRAME(f)` (R36, R67). -/
def frameBytes (g : Config) : FrameId → Vector Byte 10
  | .header => g.headerFrame
  | .trailer => g.trailerFrame

end Sys2Proof.Machine
end

