-- ==== Sys2Proof/Machine/BitIo.lean ====
section
/-! DEFINITION. The seven primitive operations of 40_bit_io.md section 2. -/

namespace Sys2Proof.Machine

/-- PULSE_ARM (R91): `PulseArm(); next`. -/
def execPulseArm (s : State) : Host.Outcome State Fault Refusal := .next (advance (pulseArm s))

/-- EN_OFF (R92): `SetEn(0); next`. -/
def execEnOff (s : State) : Host.Outcome State Fault Refusal := .next (advance (setEn false s))

/-- SET_DIR (R93): `SetDir(D); next`. -/
def execSetDir (d : Dir) (s : State) : Host.Outcome State Fault Refusal :=
  .next (advance (setDir d s))

/-- SEND_BIT (R94): DirectionError unless `DIR = Output`. -/
def execSendBit (p : Profile) (v : Bit) (s : State) : Host.Outcome State Fault Refusal :=
  if s.dir != .output then .next (raiseFault .directionError s)
  else .next (advance (tx v p s))

/-- `RXB <- {RXB[6:0], b}` (R25). -/
def shiftRxb (b : Bit) (s : State) : State :=
  { s with rxb := s.rxb.extractLsb' 0 7 ++ BitVec.ofBool b }

/-- RECV_BIT (R95): DirectionError unless `DIR = Input`. -/
def execRecvBit (p : Profile) (s : State) : Host.Outcome State Fault Refusal :=
  if s.dir != .input then .next (raiseFault .directionError s)
  else .next (advance (shiftRxb (rx p s).1 (rx p s).2))

/-- SETTLE (R96): `Settle(); next`. -/
def execSettle (s : State) : Host.Outcome State Fault Refusal := .next (advance (settle s))

/-- SENSE (R97): `STAT_OK <- PRESENT; next`. -/
def execSense (s : State) : Host.Outcome State Fault Refusal :=
  .next (advance { s with statOk := s.present })

end Sys2Proof.Machine
end

