-- ==== Sys2Proof/Machine/Flags.lean ====
section
/-! DEFINITION. The values the stage operations write into `STAT_OK`, `IMG_VALID` and `PAY`: the image
invariants of 43_block_read.md R112 and the payload of 44_counter_write.md R116. -/

namespace Sys2Proof.Machine

/-- Invariant (1) of R112: the ACK/ID byte. -/
def ackIdOk (g : Config) (img : Vector Byte 32) (col : Color) : Bool :=
  (topNibble img[0] == idNibble g col) && (img[0].extractLsb' 0 4 == g.ack)

/-- The identity half of invariant (2) of R112: offsets 12 and 13. -/
def identityOk (g : Config) (img : Vector Byte 32) (col : Color) : Bool :=
  (img[12] == (g.expectedId.get col).1) && (img[13] == (g.expectedId.get col).2)

/-- The trailer half of invariant (2) of R112: offsets 29, 30 and 31. -/
def trailerOk (g : Config) (img : Vector Byte 32) : Bool :=
  (img[29] == g.trailerSig[0]) && (img[30] == g.trailerSig[1]) && (img[31] == g.trailerSig[2])

/-- `VerifyImage(img, c)` (R112). -/
def verifyImage (g : Config) (img : Vector Byte 32) (col : Color) : Bool :=
  ackIdOk g img col && (identityOk g img col && trailerOk g img)

/-- `BuildPayload(img)` (R116): image offsets 1 to 4 with the counter byte, offset 3, forced to zero. -/
def buildPayload (img : Vector Byte 32) : Vector Byte 4 := #v[img[1], img[2], 0x00, img[4]]

/-- The byte comparison of READBACK_CMP (R121). -/
def payloadMatches (img : Vector Byte 32) (pay : Vector Byte 4) : Bool :=
  (img[1] == pay[0]) && (img[2] == pay[1]) && (img[3] == pay[2]) && (img[4] == pay[3])

/-- What READBACK_CMP writes into `STAT_OK` (R121). -/
def readbackOk (g : Config) (img : Vector Byte 32) (pay : Vector Byte 4) (col : Color) : Bool :=
  verifyImage g img col && payloadMatches img pay

end Sys2Proof.Machine
end

