-- ==== Sys2Proof/Machine/BlockRead.lean ====
section
/-! DEFINITION. The block reader and the image verification (43_block_read.md). -/

namespace Sys2Proof.Machine

/-- `IMG[k] <- v`. -/
def setImg (k : Nat) (v : Byte) (s : State) : State :=
  { s with img := s.img.setIfInBounds k v }

/-- `n` times `IMG[k] <- RecvBits(8, p)`, with `k` rising (R108). -/
def recvImage (n k : Nat) (p : Profile) (s : State) : State :=
  match n with
  | 0 => s
  | m + 1 =>
    let (v, s) := recvBits 8 p s
    recvImage m (k + 1) p (setImg k v s)

/-- `ReadBlock(c, p)` (R108). The first byte's upper nibble is pre-set and its lower nibble sampled
(R110); enable falls before the direction is restored (R111). -/
def readBlock (col : Color) (p : Profile) (s : State) : State :=
  let s := { s with imgValid := false }
  let s := pulseArm s
  let s := setDir .output s
  let s := sendBits (idNibble s.cfg col) 4 .dr s
  let s := setDir .input s
  let (lo, s) := recvBits 4 p s
  let s := setImg 0 (idNibble s.cfg col ++ lo) s
  let s := recvImage 31 1 p s
  let s := setEn false s
  setDir .output s

/-- READ_BLOCK (R109): NoChip unless `FOUND = 1`. -/
def execReadBlock (p : Profile) (s : State) : Host.Outcome State Fault Refusal :=
  if s.found then .next (advance (readBlock s.color p s)) else .next (raiseFault .noChip s)

/-- VERIFY (R113): NoChip unless `FOUND = 1`. -/
def execVerify (s : State) : Host.Outcome State Fault Refusal :=
  if s.found then
    let ok := verifyImage s.cfg s.img s.color
    .next (advance { s with statOk := ok, imgValid := ok })
  else .next (raiseFault .noChip s)

end Sys2Proof.Machine
end

