-- ==== Sys2Proof/Machine/CounterWrite.lean ====
section
/-! DEFINITION. The counter writer with read-back validation (44_counter_write.md). -/

namespace Sys2Proof.Machine

/-- BUILD_PAYLOAD (R117): NoValidImage unless `IMG_VALID = 1`. -/
def execBuildPayload (s : State) : Host.Outcome State Fault Refusal :=
  if s.imgValid then .next (advance { s with pay := buildPayload s.img, payValid := true })
  else .next (raiseFault .noValidImage s)

/-- Each byte with the write profile, a settle after each one, the last included (R119, R120). -/
def writeBytes (xs : List Byte) (s : State) : State :=
  match xs with
  | [] => s
  | x :: rest => writeBytes rest (settle (sendBits x 8 .wr s))

/-- The body of R119 before `next`. -/
def writePayload (s : State) : State :=
  let pay := s.pay
  let s := pulseArm s
  let s := setDir .output s
  let s := sendBits (writeNibble s.cfg s.color) 4 .wr s
  let s := writeBytes pay.toList s
  setEn false s

/-- WRITE_PAYLOAD (R119): NoChip unless `FOUND = 1`, then NoPayload unless `PAY_VALID = 1`. -/
def execWritePayload (s : State) : Host.Outcome State Fault Refusal :=
  if !s.found then .next (raiseFault .noChip s)
  else if !s.payValid then .next (raiseFault .noPayload s)
  else .next (advance (writePayload s))

/-- READBACK_CMP (R121): NoChip unless `FOUND = 1`, then NoPayload unless `PAY_VALID = 1`. -/
def execReadbackCmp (s : State) : Host.Outcome State Fault Refusal :=
  if !s.found then .next (raiseFault .noChip s)
  else if !s.payValid then .next (raiseFault .noPayload s)
  else .next (advance { s with statOk := readbackOk s.cfg s.img s.pay s.color })

end Sys2Proof.Machine
end

