-- ==== Sys2Proof/Machine/Discovery.lean ====
section
/-! DEFINITION. Chip discovery (41_discovery.md). -/

namespace Sys2Proof.Machine

/-- `Probe(c)` (R98): whether the chip acknowledged, and the state after the attempt. -/
def probe (col : Color) (s : State) : Bool × State :=
  let s := pulseArm s
  let s := setDir .output s
  let s := sendBits (idNibble s.cfg col) 4 .dr s
  let s := setDir .input s
  let (r, s) := recvBits 4 .dr s
  let s := setDir .output s
  (r == s.cfg.ack, s)

/-- The loop of R99 over the colors still to probe: the first acknowledged one is taken (R101); after
the last the lines are put to rest (R103). Each probe issues its own PulseArm (R98), where
70_reset_and_hazards.md R173 speaks of one at the start of each multi-bit operation: the model follows R98
and R99. DEDUCED, safe (log entry 22). -/
def probeLoop (cs : List Color) (s : State) : State :=
  match cs with
  | [] => setEn false (setDir .output s)
  | col :: rest =>
    let (ok, s) := probe col s
    if ok then { s with color := col, found := true, statOk := true } else probeLoop rest s

/-- What DISCOVER voids at its start (R99). -/
def discoverStart (s : State) : State :=
  { s with found := false, statOk := false, imgValid := false, payValid := false }

/-- The body of R99 before `next`. With no chip present it issues no PulseArm (R100), R173
notwithstanding. DEDUCED, safe (log entry 22). -/
def discover (s : State) : State :=
  if s.present then probeLoop probeOrder (discoverStart s)
  else setEn false (setDir .output (discoverStart s))

/-- DISCOVER (R99). -/
def execDiscover (s : State) : Host.Outcome State Fault Refusal := .next (advance (discover s))

end Sys2Proof.Machine
end

