-- ==== Sys2Proof/Machine/Frame.lean ====
section
/-! DEFINITION. The frame transmitter (42_frame.md). -/

namespace Sys2Proof.Machine

/-- The body of R105 before `next`: the ten bytes of the frame between a pulse and `SetEn(0)`. -/
def sendFrame (f : FrameId) (s : State) : State :=
  let fr := frameBytes s.cfg f
  let s := pulseArm s
  let s := setDir .output s
  let s := sendBytes fr.toList .dr s
  setEn false s

/-- SEND_FRAME (R105). -/
def execSendFrame (f : FrameId) (s : State) : Host.Outcome State Fault Refusal :=
  .next (advance (sendFrame f s))

end Sys2Proof.Machine
end

