-- ==== Sys2Proof/Machine/Reserved.lean ====
section
/-! DEFINITION. The words of the reserved opcodes (30_encoding.md R75): each takes `Fault(IllegalOp)`
(R73, R142), whatever its low eleven bits are. -/

namespace Sys2Proof.Machine

/-- A word of the reserved opcode 0x00 (R75). -/
def execReserved00 (_low : BitVec 11) (s : State) : Host.Outcome State Fault Refusal :=
  .next (raiseFault .illegalOp s)

/-- A word of the reserved opcode 0x15 (R75). -/
def execReserved15 (_low : BitVec 11) (s : State) : Host.Outcome State Fault Refusal :=
  .next (raiseFault .illegalOp s)

/-- A word of the reserved opcode 0x16 (R75). -/
def execReserved16 (_low : BitVec 11) (s : State) : Host.Outcome State Fault Refusal :=
  .next (raiseFault .illegalOp s)

/-- A word of the reserved opcode 0x17 (R75). -/
def execReserved17 (_low : BitVec 11) (s : State) : Host.Outcome State Fault Refusal :=
  .next (raiseFault .illegalOp s)

/-- A word of the reserved opcode 0x18 (R75). -/
def execReserved18 (_low : BitVec 11) (s : State) : Host.Outcome State Fault Refusal :=
  .next (raiseFault .illegalOp s)

/-- A word of the reserved opcode 0x19 (R75). -/
def execReserved19 (_low : BitVec 11) (s : State) : Host.Outcome State Fault Refusal :=
  .next (raiseFault .illegalOp s)

/-- A word of the reserved opcode 0x1A (R75). -/
def execReserved1A (_low : BitVec 11) (s : State) : Host.Outcome State Fault Refusal :=
  .next (raiseFault .illegalOp s)

/-- A word of the reserved opcode 0x1B (R75). -/
def execReserved1B (_low : BitVec 11) (s : State) : Host.Outcome State Fault Refusal :=
  .next (raiseFault .illegalOp s)

/-- A word of the reserved opcode 0x1C (R75). -/
def execReserved1C (_low : BitVec 11) (s : State) : Host.Outcome State Fault Refusal :=
  .next (raiseFault .illegalOp s)

/-- A word of the reserved opcode 0x1D (R75). -/
def execReserved1D (_low : BitVec 11) (s : State) : Host.Outcome State Fault Refusal :=
  .next (raiseFault .illegalOp s)

/-- A word of the reserved opcode 0x1E (R75). -/
def execReserved1E (_low : BitVec 11) (s : State) : Host.Outcome State Fault Refusal :=
  .next (raiseFault .illegalOp s)

/-- A word of the reserved opcode 0x1F (R75). -/
def execReserved1F (_low : BitVec 11) (s : State) : Host.Outcome State Fault Refusal :=
  .next (raiseFault .illegalOp s)

end Sys2Proof.Machine
end

