-- ==== Sys2Proof/Machine/Sequencer.lean ====
section
/-! DEFINITION. The control and cycle operations (45_sequencer.md section 2). -/

namespace Sys2Proof.Machine

/-- WAIT_GO (R125). With `GO = 0` it holds: the engine has no step, and nothing changes (log entry 9). Reached
with `GO = 1` it passes at once; that the cycle program can reach it so is log entry 23. -/
def execWaitGo (s : State) : Host.Outcome State Fault Refusal :=
  if s.go then .next (advance { s with trigEn := false }) else .next s

/-- ARM (R126): clear the latch, clear PendingTrigger and re-arm, in one step. -/
def execArm (s : State) : Host.Outcome State Fault Refusal :=
  .next (advance { s with edgePend := false, go := false, trigEn := true })

/-- Posts an outcome: the port's three registers and the `Report` event (R31, R127). -/
def postOutcome (kind : Bit) (arg : BitVec 2) (s : State) : State :=
  emit (.report kind arg) { s with outValid := true, outKind := kind, outArg := arg }

/-- REPORT with `K = 0` (R127): NoChip unless `FOUND = 1`; the argument is `COLOR`. -/
def execReportSuccess (s : State) : Host.Outcome State Fault Refusal :=
  if s.found then .next (advance (postOutcome false (colorCode s.color) s))
  else .next (raiseFault .noChip s)

/-- REPORT with `K = 1` (R127): the argument is the sub-code `A`. -/
def execReportError (a : BitVec 2) (s : State) : Host.Outcome State Fault Refusal :=
  .next (advance (postOutcome true a s))

/-- CLEAR_BUF (R128). -/
def execClearBuf (s : State) : Host.Outcome State Fault Refusal :=
  .next (advance { s with
    img := Vector.replicate 32 0, pay := Vector.replicate 4 0, imgValid := false, payValid := false })

/-- JMP (R129): the target is the field itself (R68). -/
def execJmp (t : BitVec 8) (s : State) : Host.Outcome State Fault Refusal := .next (jumpTo t s)

/-- BRF (R130): taken when `STAT_OK = 0`. -/
def execBrf (t : BitVec 8) (s : State) : Host.Outcome State Fault Refusal :=
  if s.statOk then .next (advance s) else .next (jumpTo t s)

end Sys2Proof.Machine
end

