-- ==== Sys2Proof/Machine/Dispatch.lean ====
section
/-! DEFINITION. `execute(op)` of 45_sequencer.md R124: one arm per operation. -/

namespace Sys2Proof.Machine

def exec (i : Instr) (s : State) : Host.Outcome State Fault Refusal :=
  match i with
  | .pulseArm => Sys2Proof.Machine.execPulseArm s
  | .enOff => Sys2Proof.Machine.execEnOff s
  | .setDir d => Sys2Proof.Machine.execSetDir d s
  | .sendBit p v => Sys2Proof.Machine.execSendBit p v s
  | .recvBit p => Sys2Proof.Machine.execRecvBit p s
  | .settle => Sys2Proof.Machine.execSettle s
  | .sense => Sys2Proof.Machine.execSense s
  | .discover => Sys2Proof.Machine.execDiscover s
  | .sendFrame f => Sys2Proof.Machine.execSendFrame f s
  | .readBlock p => Sys2Proof.Machine.execReadBlock p s
  | .verify => Sys2Proof.Machine.execVerify s
  | .buildPayload => Sys2Proof.Machine.execBuildPayload s
  | .writePayload => Sys2Proof.Machine.execWritePayload s
  | .readbackCmp => Sys2Proof.Machine.execReadbackCmp s
  | .clearBuf => Sys2Proof.Machine.execClearBuf s
  | .waitGo => Sys2Proof.Machine.execWaitGo s
  | .arm => Sys2Proof.Machine.execArm s
  | .reportSuccess => Sys2Proof.Machine.execReportSuccess s
  | .reportError a => Sys2Proof.Machine.execReportError a s
  | .jmp t => Sys2Proof.Machine.execJmp t s
  | .brf t => Sys2Proof.Machine.execBrf t s
  | .reserved00 low => Sys2Proof.Machine.execReserved00 low s
  | .reserved15 low => Sys2Proof.Machine.execReserved15 low s
  | .reserved16 low => Sys2Proof.Machine.execReserved16 low s
  | .reserved17 low => Sys2Proof.Machine.execReserved17 low s
  | .reserved18 low => Sys2Proof.Machine.execReserved18 low s
  | .reserved19 low => Sys2Proof.Machine.execReserved19 low s
  | .reserved1A low => Sys2Proof.Machine.execReserved1A low s
  | .reserved1B low => Sys2Proof.Machine.execReserved1B low s
  | .reserved1C low => Sys2Proof.Machine.execReserved1C low s
  | .reserved1D low => Sys2Proof.Machine.execReserved1D low s
  | .reserved1E low => Sys2Proof.Machine.execReserved1E low s
  | .reserved1F low => Sys2Proof.Machine.execReserved1F low s

end Sys2Proof.Machine
end

