-- ==== Sys2Proof/Machine/Turns.lean ====
section
/-! DEFINITION. The turns of the agents (00_scope.md R14): the engine step of 45_sequencer.md R124, the
steps of the trigger unit, the changes of the inputs, and the turn taken when none is scheduled. -/

namespace Sys2Proof.Machine

/-- The engine fetches, decodes and executes (R124); a word that decodes to no operation takes
`Fault(IllegalOp)` (R73). -/
def runFetched (s : State) : Host.Outcome State Fault Refusal :=
  match decode (fetch s) with
  | .ok i => exec i s
  | .error _ => .next (raiseFault .illegalOp s)

/-- The operation at `upc` is WAIT_GO and `GO = 0`: the engine holds (R124, R125). -/
def holds (s : State) : Bool :=
  match decode (fetch s) with
  | .ok .waitGo => !s.go
  | _ => false

/-- When the engine step is enabled (R124). -/
def engineEnabled (s : State) : Bool := !s.fault && !holds s

/-- A turn of the engine: its step where it is enabled, else nothing (R124, R146). -/
def engineTurn (s : State) : Host.Outcome State Fault Refusal :=
  if engineEnabled s then runFetched s else .next s

/-- A turn of the trigger unit to deliver: its step where it is enabled, else nothing (R148). It may fall
between ARM at 0x15 and the JMP at 0x16 (R14, R150, V-T6), so WAIT_GO can be reached with `GO = 1`, though a
corner case of R125 says the cycle program never does that: the model follows R148. DEDUCED, safe (log
entry 23). -/
def deliverTurn (s : State) : State := if deliverEnabled s then deliverStep s else s

/-- The `RESET` input changes (R166): while it is asserted the state tuple is at its reset value. -/
def setResetInput (b : Bit) (s : State) : State :=
  if b then applyReset { s with resetIn := true } else { s with resetIn := false }

/-- One turn. While `RESET` is asserted no agent steps, no edge is latched and every field holds its
reset value (R166); the inputs still change. -/
def takeTurn (t : Turn) (s : State) : Host.Outcome State Fault Refusal :=
  match t with
  | .setReset b => .next (setResetInput b s)
  | .setPresent b => .next { s with present := b }
  | .engine => if s.resetIn then .next (applyReset s) else engineTurn s
  | .edge => if s.resetIn then .next (applyReset s) else .next (edgeStep s)
  | .deliver => if s.resetIn then .next (applyReset s) else .next (deliverTurn s)

/-- The turn when the agenda lists none: the engine's step if it is enabled, else a delivery if it is
enabled. Where neither is, a faulted engine is stuck until reset (R146), and a holding one waits for an
edge (R125) (log entries 7 and 9). -/
def idleTurn (s : State) : Host.Outcome State Fault Refusal :=
  if s.resetIn then .next (applyReset s)
  else if engineEnabled s then runFetched s
  else if deliverEnabled s then .next (deliverStep s)
  else if s.fault then .fault .engineHalted
  else .next s

end Sys2Proof.Machine
end

