-- ==== Sys2Proof/Machine/Step.lean ====
section
/-! DEFINITION. One step of the machine: the next turn of the total order of steps (20_memory.md R54). -/

namespace Sys2Proof.Machine

/-- Takes the first turn of the agenda; with an empty agenda the block's own agents go on. A
configuration that breaks 00_scope.md R7 is refused. -/
def step (s : State) : Host.Outcome State Fault Refusal :=
  if configWf s.cfg then
    match s.agenda with
    | [] => idleTurn s
    | t :: rest => takeTurn t { s with agenda := rest }
  else .refused .illFormedConfig

/-- `s` with the `nbits` table bits `w`, one whole ROM word, where the next engine step fetches: the ROM
holds it at `upc`, no other turn comes first and RESET is released. The engine runs it as the very next
step wherever it can step at all (`FAULT = 0` and a configuration that R7 admits, as after reset). -/
def State.withFetchWord (s : State) (nbits w : Nat) : State :=
  { s with
    rom := s.rom.write s.upc.toNat (BitVec.ofNat 16 (w % 2 ^ nbits)), agenda := [], resetIn := false }

end Sys2Proof.Machine
end

