-- ==== Sys2Proof/Machine/Assembler.lean ====
section
/-! DEFINITION. The assembly language of 30_encoding.md section 5: its lines and operands (R77), the
pseudo-instructions (R78) and what an assembler refuses (R79). No step of the machine reads this file; it
says which ROM a program text stands for. A text is a list of characters. -/

namespace Sys2Proof.Machine

/-! ### Pseudo-instructions (R78) -/

/-- `SEND_NIBBLE x, prof`: four SEND_BITs, bit 3 first. -/
def sendNibbleOps (x : Nibble) (p : Profile) : List Instr :=
  [.sendBit p (x.getLsbD 3), .sendBit p (x.getLsbD 2), .sendBit p (x.getLsbD 1),
    .sendBit p (x.getLsbD 0)]

/-- `SEND_BYTE x, prof`: eight SEND_BITs, MSB first. -/
def sendByteOps (x : Byte) (p : Profile) : List Instr :=
  [.sendBit p (x.getLsbD 7), .sendBit p (x.getLsbD 6), .sendBit p (x.getLsbD 5),
    .sendBit p (x.getLsbD 4), .sendBit p (x.getLsbD 3), .sendBit p (x.getLsbD 2),
    .sendBit p (x.getLsbD 1), .sendBit p (x.getLsbD 0)]

/-- `RECV_NIBBLE prof`: RECV_BIT four times. -/
def recvNibbleOps (p : Profile) : List Instr := List.replicate 4 (.recvBit p)

/-- `RECV_BYTE prof`: RECV_BIT eight times. -/
def recvByteOps (p : Profile) : List Instr := List.replicate 8 (.recvBit p)

/-! ### Reading a line (R77) -/

/-- Why the assembler refuses a line (R79). -/
inductive AsmError where
  /-- the line is not `[label:] MNEMONIC [operands] [; comment]` -/
  | malformedLine
  /-- the mnemonic is in neither R71 nor R78 -/
  | unknownMnemonic
  /-- an operand is missing, too many, or outside its field -/
  | badOperand
  /-- a label does not resolve to one address of 0..255 -/
  | unresolvedLabel
  /-- the program has more than 256 words, or goes past address 255 -/
  | tooLong
  deriving DecidableEq, Repr

/-- A token of a line. -/
inductive Token where
  | word (w : List Char)
  | comma
  | colon
  deriving DecidableEq, Repr

/-- The target of a JMP or BRF as written: a number or a label (R77). -/
inductive Target where
  | number (n : Nat)
  | label (l : List Char)
  deriving DecidableEq, Repr

/-- One word to be placed: an operation, or a branch whose target is still to be resolved. -/
inductive Item where
  | op (i : Instr)
  | jmp (t : Target)
  | brf (t : Target)
  deriving DecidableEq, Repr

/-- What a line says beside its label. -/
inductive Stmt where
  | empty
  | org (n : Nat)
  | items (xs : List Item)
  deriving DecidableEq, Repr

/-- A line read. -/
structure AsmLine where
  label : Option (List Char)
  stmt : Stmt
  deriving DecidableEq, Repr

/-- The pending word, if there is one, before the later tokens. -/
def flushWord (acc : List Char) (rest : List Token) : List Token :=
  if acc = [] then rest else .word acc.reverse :: rest

/-- The tokens of a text without its comment; `acc` is the word being read, reversed. -/
def tokenize (text acc : List Char) : List Token :=
  match text with
  | [] => flushWord acc []
  | ch :: rest =>
    if ch = ' ' ∨ ch = '\t' then flushWord acc (tokenize rest [])
    else if ch = ',' then flushWord acc (.comma :: tokenize rest [])
    else if ch = ':' then flushWord acc (.colon :: tokenize rest [])
    else tokenize rest (ch :: acc)

/-- Mnemonics and keywords are case-insensitive (R77). -/
def lower (w : List Char) : List Char := w.map Char.toLower

/-- Whether the word is the keyword, in any case. -/
def isKeyword (w : List Char) (k : String) : Bool := lower w == k.toList

/-- The value of a digit, hexadecimal ones included. -/
def digitVal (ch : Char) : Option Nat :=
  let n := ch.toLower.toNat
  if 48 ≤ n ∧ n ≤ 57 then some (n - 48) else if 97 ≤ n ∧ n ≤ 102 then some (n - 87) else none

/-- The digits `w` in base `base`, after the value `acc`. -/
def parseDigits (base acc : Nat) (w : List Char) : Option Nat :=
  match w with
  | [] => some acc
  | ch :: rest =>
    match digitVal ch with
    | some v => if v < base then parseDigits base (acc * base + v) rest else none
    | none => none

/-- A number: decimal, or hexadecimal with `0x` (R77). R77 names only `0x` and says nothing of the case of
the prefix, of the case of a digit or of leading zeros: taking `0X` as `0x`, a digit in either case and any
leading zeros is a DESIGN CHOICE, safe (log entry 19). -/
def parseNumber (w : List Char) : Option Nat :=
  match w with
  | [] => none
  | [ch] => parseDigits 10 0 [ch]
  | c0 :: c1 :: rest =>
    if c0 = '0' ∧ c1.toLower = 'x' then
      if rest = [] then none else parseDigits 16 0 rest
    else parseDigits 10 0 (c0 :: c1 :: rest)

/-- A number below `bound`: an operand inside its field. -/
def parseBelow (bound : Nat) (w : List Char) : Except AsmError Nat :=
  match parseNumber w with
  | some n => if n < bound then .ok n else .error .badOperand
  | none => .error .badOperand

/-- `prof`: `dr`, `fast` or `wr` (R77). -/
def parseProfile (w : List Char) : Except AsmError Profile :=
  if isKeyword w "dr" then .ok .dr
  else if isKeyword w "fast" then .ok .fast
  else if isKeyword w "wr" then .ok .wr
  else .error .badOperand

/-- `SET_DIR`'s operand: `out` or `in`. -/
def parseDir (w : List Char) : Except AsmError Dir :=
  if isKeyword w "out" then .ok .output
  else if isKeyword w "in" then .ok .input
  else .error .badOperand

/-- `SEND_FRAME`'s operand: `header` or `trailer`. -/
def parseFrame (w : List Char) : Except AsmError FrameId :=
  if isKeyword w "header" then .ok .header
  else if isKeyword w "trailer" then .ok .trailer
  else .error .badOperand

/-- `REPORT error`'s operand: 1, 2, 3 or a name (R77). -/
def parseSubCode (w : List Char) : Except AsmError (BitVec 2) :=
  if isKeyword w "notfound" then .ok 1
  else if isKeyword w "readinvalid" then .ok 2
  else if isKeyword w "writeverifyfailed" then .ok 3
  else
    match parseBelow 4 w with
    | .ok n => if n = 0 then .error .badOperand else .ok (BitVec.ofNat 2 n)
    | .error e => .error e

/-- `t`: a number 0..255, or a label (R77). R77 does not say how the two are told apart: reading a word that
begins with a digit as a number, and any other as a label, is a DESIGN CHOICE, safe (log entry 19). -/
def parseTarget (w : List Char) : Except AsmError Target :=
  match w with
  | [] => .error .badOperand
  | ch :: _ =>
    if ch.isDigit then
      match parseBelow 256 w with
      | .ok n => .ok (.number n)
      | .error e => .error e
    else .ok (.label w)

/-- The mnemonics without an operand, and the pseudo-instructions without one (R71, R78). -/
def plainMnemonics : List (String × Instr) :=
  [ ("pulse_arm", .pulseArm), ("en_off", .enOff), ("settle", .settle), ("sense", .sense),
    ("discover", .discover), ("verify", .verify), ("build_payload", .buildPayload),
    ("write_payload", .writePayload), ("readback_cmp", .readbackCmp), ("clear_buf", .clearBuf),
    ("wait_go", .waitGo), ("arm", .arm), ("not_found", .reportError 1),
    ("read_invalid", .reportError 2), ("write_verify_failed", .reportError 3) ]

/-- The mnemonics with operands (R71, R78). -/
def operandMnemonics : List String :=
  ["set_dir", "send_bit", "recv_bit", "send_frame", "read_block", "report", "jmp", "brf",
    "send_nibble", "send_byte", "recv_nibble", "recv_byte"]

/-- The operation a mnemonic of `plainMnemonics` names. -/
def findPlain (m : List Char) : List (String × Instr) → Option Instr
  | [] => none
  | (k, i) :: rest => if isKeyword m k then some i else findPlain m rest

/-- The words of a mnemonic with one operand. -/
def parseOp1 (m w : List Char) : Except AsmError (List Item) :=
  if isKeyword m "set_dir" then (parseDir w).map (fun d => [.op (.setDir d)])
  else if isKeyword m "recv_bit" then (parseProfile w).map (fun p => [.op (.recvBit p)])
  else if isKeyword m "read_block" then (parseProfile w).map (fun p => [.op (.readBlock p)])
  else if isKeyword m "send_frame" then (parseFrame w).map (fun f => [.op (.sendFrame f)])
  else if isKeyword m "report" then
    if isKeyword w "success" then .ok [.op .reportSuccess] else .error .badOperand
  else if isKeyword m "jmp" then (parseTarget w).map (fun t => [.jmp t])
  else if isKeyword m "brf" then (parseTarget w).map (fun t => [.brf t])
  else if isKeyword m "recv_nibble" then
    (parseProfile w).map (fun p => (recvNibbleOps p).map .op)
  else if isKeyword m "recv_byte" then (parseProfile w).map (fun p => (recvByteOps p).map .op)
  else .error .badOperand

/-- The words of a mnemonic with two operands. -/
def parseOp2 (m w1 w2 : List Char) : Except AsmError (List Item) :=
  if isKeyword m "send_bit" then do
    let v ← parseBelow 2 w1
    let p ← parseProfile w2
    return [.op (.sendBit p (v == 1))]
  else if isKeyword m "send_nibble" then do
    let x ← parseBelow 16 w1
    let p ← parseProfile w2
    return (sendNibbleOps (BitVec.ofNat 4 x) p).map .op
  else if isKeyword m "send_byte" then do
    let x ← parseBelow 256 w1
    let p ← parseProfile w2
    return (sendByteOps (BitVec.ofNat 8 x) p).map .op
  else if isKeyword m "report" && isKeyword w1 "error" then
    (parseSubCode w2).map (fun a => [.op (.reportError a)])
  else .error .badOperand

/-- The statement of a mnemonic and its operands. -/
def parseStmt (m : List Char) (args : List (List Char)) : Except AsmError Stmt :=
  if isKeyword m ".org" then
    match args with
    | [w] => (parseBelow 256 w).map .org
    | _ => .error .badOperand
  else
    match findPlain m plainMnemonics with
    | some i => if args = [] then .ok (.items [.op i]) else .error .badOperand
    | none =>
      if operandMnemonics.any (isKeyword m) then
        match args with
        | [w] => (parseOp1 m w).map .items
        | [w1, w2] => (parseOp2 m w1 w2).map .items
        | _ => .error .badOperand
      else .error .unknownMnemonic

/-- The operands after the first: each stands after a comma. -/
def parseMoreArgs : List Token → Option (List (List Char))
  | [] => some []
  | .comma :: .word w :: rest => (parseMoreArgs rest).map (fun ws => w :: ws)
  | _ => none

/-- The operands of a line. -/
def parseArgs : List Token → Option (List (List Char))
  | [] => some []
  | .word w :: rest => (parseMoreArgs rest).map (fun ws => w :: ws)
  | _ => none

/-- What stands after the label, if there is one. R77's form has a mnemonic on every line and says nothing of
a line without one: a blank line, one that holds only a comment, and one that holds only a label are accepted
and place no word. DESIGN CHOICE, safe (log entry 19). -/
def parseBody (toks : List Token) : Except AsmError Stmt :=
  match toks with
  | [] => .ok .empty
  | .word m :: rest =>
    match parseArgs rest with
    | some args => parseStmt m args
    | none => .error .malformedLine
  | _ => .error .malformedLine

/-- One line (R77). R77 does not say what a label may be: any word before a colon is taken as one, a word
that begins with a digit and a mnemonic among them, so `12: SETTLE` is accepted. A branch cannot name a label
that begins with a digit (`parseTarget`). DESIGN CHOICE, safe (log entry 19). -/
def parseLine (text : List Char) : Except AsmError AsmLine :=
  match tokenize (text.takeWhile (fun ch => ch != ';')) [] with
  | .word l :: .colon :: rest => (parseBody rest).map (fun st => { label := some l, stmt := st })
  | toks => (parseBody toks).map (fun st => { label := none, stmt := st })

/-! ### Laying out a program -/

/-- The lines of a text. -/
def splitLines (text acc : List Char) : List (List Char) :=
  match text with
  | [] => [acc.reverse]
  | ch :: rest => if ch = '\n' then acc.reverse :: splitLines rest [] else splitLines rest (ch :: acc)

/-- A word placed: its line, its address and what it holds. -/
structure Placed where
  line : Nat
  addr : Nat
  item : Item
  deriving DecidableEq, Repr

/-- The items from address `a` on. -/
def placeItems (line a : Nat) : List Item → List Placed
  | [] => []
  | x :: rest => { line := line, addr := a, item := x } :: placeItems line (a + 1) rest

/-- Where the words and the labels of the lines go, from line `n` and address `a` on, after `k` words. A line
that makes the program longer than 256 words is refused, wherever `.org` puts them (R79), and so is one whose
words go past address 255: the second is a DESIGN CHOICE, safe (log entry 19). -/
def layout (n a k : Nat) (ls : List (List Char)) :
    Except (Nat × AsmError) (List Placed × List (List Char × Nat)) :=
  match ls with
  | [] => .ok ([], [])
  | l :: rest =>
    match parseLine l with
    | .error e => .error (n, e)
    | .ok p =>
      let at0 := match p.stmt with
        | .org m => m
        | .empty | .items _ => a
      let items := match p.stmt with
        | .items xs => xs
        | .empty | .org _ => []
      if 256 < k + items.length ∨ 256 < at0 + items.length then .error (n, .tooLong)
      else
        match layout (n + 1) (at0 + items.length) (k + items.length) rest with
        | .error e => .error e
        | .ok (ws, labels) =>
          .ok (placeItems n at0 items ++ ws,
            match p.label with
            | some lb => (lb, at0) :: labels
            | none => labels)

/-- The one address of 0..255 a label resolves to (R79). That a label defined twice resolves to none is a
DESIGN CHOICE, safe (log entry 19). -/
def resolveLabel (labels : List (List Char × Nat)) (l : List Char) : Option (BitVec 8) :=
  match labels.filter (fun x => x.1 == l) with
  | [(_, a)] => if a < 256 then some (BitVec.ofNat 8 a) else none
  | _ => none

/-- The address a target names. -/
def resolveTarget (labels : List (List Char × Nat)) : Target → Option (BitVec 8)
  | .number n => some (BitVec.ofNat 8 n)
  | .label l => resolveLabel labels l

/-- The operation of a placed word. -/
def resolveItem (labels : List (List Char × Nat)) : Item → Option Instr
  | .op i => some i
  | .jmp t => (resolveTarget labels t).map .jmp
  | .brf t => (resolveTarget labels t).map .brf

/-- The words of the placed items, with their addresses. R79 does not say whether a label that no branch
uses is checked: a label is resolved only where a JMP or BRF names it, so an unused one after 256 words (at
address 256) or defined twice is accepted. DESIGN CHOICE, safe (log entry 19). -/
def encodeAll (labels : List (List Char × Nat)) :
    List Placed → Except (Nat × AsmError) (List RomCell)
  | [] => .ok []
  | p :: rest =>
    match resolveItem labels p.item with
    | none => .error (p.line, .unresolvedLabel)
    | some i => (encodeAll labels rest).map (fun ws => (p.addr, encode i) :: ws)

/-- The words a program text stands for, with their addresses; a refusal names its line, from 1. -/
def assemble (text : List Char) : Except (Nat × AsmError) (List RomCell) :=
  match layout 1 0 0 (splitLines text []) with
  | .error e => .error e
  | .ok (ws, labels) => encodeAll labels ws

/-! ### A ROM with given words -/

/-- The ROM that holds 0x0000 everywhere. -/
def blankRom : Memory := (List.range cycleProgram.length).foldl (fun m a => m.write a 0) []

/-- The ROM that holds the words and 0x0000 elsewhere. -/
def romOfWords (ws : List RomCell) : Memory :=
  ws.foldl (fun m x => m.write x.1 x.2) blankRom

end Sys2Proof.Machine
end

