-- ==== Sys2Proof/Machine/Traces.lean ====
section
/-! DEFINITION. The event lists and the received values the rules give, as functions of their own: what a
statement compares an operation's result with. No step reads this file. -/

namespace Sys2Proof.Machine

/-- The low `n` bits of `x`, most significant first (20_memory.md R43). -/
def msbBits {w : Nat} (x : BitVec w) (n : Nat) : List Bit :=
  match n with
  | 0 => []
  | i + 1 => x.getLsbD i :: msbBits x i

/-- The value of bits received most significant first (R43). -/
def bitsValue (w : Nat) (bs : List Bit) : BitVec w :=
  BitVec.ofNat w (bs.foldl (fun v b => 2 * v + b.toNat) 0)

/-- The events of `SendBits(x, n, p)` (R85). -/
def txEvents {w : Nat} (x : BitVec w) (n : Nat) (p : Profile) : List Event :=
  (msbBits x n).map (fun v => .tx v p)

/-- The events of received bits (R84). -/
def rxEvents (bs : List Bit) (p : Profile) : List Event := bs.map (fun v => .rx v p)

/-- The events of `SetEn(b)` with enable at `cur` (R80). -/
def enEvents (cur b : Bit) : List Event := if cur = b then [] else [.en b]

/-- The events of `SetDir(d)` with the direction at `cur` (R81). -/
def dirEvents (cur d : Dir) : List Event := if cur = d then [] else [.dir d]

/-- The events of `PulseArm()` with enable at `cur` (R82). -/
def pulseEvents (cur : Bit) : List Event :=
  if cur then [.en false, .en true] else [.en true, .en false, .en true]

/-- The bits of a frame (R105). -/
def frameEvents (g : Config) (f : FrameId) : List Event :=
  (frameBytes g f).toList.flatMap (fun x => txEvents x 8 .dr)

/-- The bits of a payload with its settles (R119, R120). -/
def payloadEvents (pay : Vector Byte 4) : List Event :=
  pay.toList.flatMap (fun x => txEvents x 8 .wr ++ [.settle])

/-- The events of `Probe(col)` answered with the nibble `r` (R98). -/
def probeEvents (g : Config) (en : Bit) (dir : Dir) (col : Color) (r : Nibble) : List Event :=
  pulseEvents en ++ dirEvents dir .output ++ txEvents (idNibble g col) 4 .dr ++ [.dir .input]
    ++ rxEvents (msbBits r 4) .dr ++ [.dir .output]

/-- The colors probed and the one found, when color `c` answers `r.get c` (R99, R101). -/
def probed (ack : Nibble) (r : PerColor Nibble) : List Color → List Color × Option Color
  | [] => ([], none)
  | col :: rest =>
    if r.get col = ack then ([col], some col)
    else (col :: (probed ack r rest).1, (probed ack r rest).2)

/-- The bits of the response nibbles of the colors DISCOVER probes, in order (R99, R101). -/
def discoverAnswers (ack : Nibble) (r : PerColor Nibble) : List Bit :=
  (probed ack r probeOrder).1.flatMap (fun col => msbBits (r.get col) 4)

/-- The events of the probes of the listed colors, one after the other (R99). -/
def probesEvents (g : Config) (r : PerColor Nibble) (en : Bit) (dir : Dir) :
    List Color → List Event
  | [] => []
  | col :: rest => probeEvents g en dir col (r.get col) ++ probesEvents g r true .output rest

/-- The image a read stream fills (R45, R108, R110). -/
def imageOfBits (id : Nibble) (bs : List Bit) : Vector Byte 32 :=
  Vector.ofFn (fun k =>
    if k.val = 0 then id ++ bitsValue 4 (bs.take 4)
    else bitsValue 8 ((bs.drop (4 + 8 * (k.val - 1))).take 8))

/-- The events of a `ReadBlock(col, p)` that receives `bs` (R108, R111). -/
def readEvents (g : Config) (en : Bit) (dir : Dir) (col : Color) (p : Profile) (bs : List Bit) :
    List Event :=
  pulseEvents en ++ dirEvents dir .output ++ txEvents (idNibble g col) 4 .dr ++ [.dir .input]
    ++ rxEvents bs p ++ [.en false, .dir .output]

/-- The received bits agree with the listed answers as far as both go (R16). -/
def AnsweredBy (bs listed : List Bit) : Prop := bs.take listed.length = listed.take bs.length

/-- An outcome with its next state changed by `f`. -/
def mapNext (f : State → State) :
    Host.Outcome State Fault Refusal → Host.Outcome State Fault Refusal
  | .next s => .next (f s)
  | .fault r => .fault r
  | .refused r => .refused r

end Sys2Proof.Machine
end

