-- ==== Sys2Proof/Machine/Views.lean ====
section
/-! DEFINITION. Views of the state that no operation reads: the packed `STATUS` word (10_state.md R33),
the levels at the pins (R18 to R20), the pin actions of each event (40_bit_io.md R80 to R87), the outcome
port (60_exceptions.md R140, R160) and the source's state names (45_sequencer.md R132). -/

namespace Sys2Proof.Machine

/-! ### `STATUS` (R33) -/

/-- Bits 11 to 0 of `STATUS`: FUPC, FCAUSE, FAULT. -/
def statusFault (s : State) : BitVec 12 := s.fupc ++ (s.fcause ++ BitVec.ofBool s.fault)

/-- Bits 20 to 12: PAY_VALID, IMG_VALID, COLOR, FOUND, STAT_OK, TRIG_EN, EDGE_PEND, GO. -/
def statusFlags (s : State) : BitVec 9 :=
  BitVec.ofBool s.payValid ++ (BitVec.ofBool s.imgValid ++ (colorCode s.color ++
    (BitVec.ofBool s.found ++ (BitVec.ofBool s.statOk ++ (BitVec.ofBool s.trigEn ++
      (BitVec.ofBool s.edgePend ++ BitVec.ofBool s.go))))))

/-- Bits 28 to 21: DATA_OUT, CLK, DIR, EN, OUT_ARG, OUT_KIND, OUT_VALID. -/
def statusPins (s : State) : BitVec 8 :=
  BitVec.ofBool s.dataOut ++ (BitVec.ofBool s.clk ++ (BitVec.ofBool (dirCode s.dir) ++
    (BitVec.ofBool s.en ++ (s.outArg ++ (BitVec.ofBool s.outKind ++ BitVec.ofBool s.outValid)))))

/-- The 32-bit read-only view `STATUS` (R33); bits 31 to 29 read 0. -/
def status (s : State) : BitVec 32 :=
  0#3 ++ (statusPins s ++ (statusFlags s ++ statusFault s))

/-! ### The pins (R18 to R20) -/

/-- The level of a pin whose asserted level is `active`. -/
def pinLevel (active logical : Bit) : Bit := if logical then active else !active

/-- What CCPE drives on `DATA` (R19): the latch, or nothing while the line is an input. -/
def dataPin (s : State) : Option Bit :=
  match s.dir with
  | .output => some s.dataOut
  | .input => none

/-- The level of the `EN` pin (R20). -/
def enPin (s : State) : Bit := pinLevel s.cfg.enActiveLevel s.en

/-- The level of the `CLK` pin: not inverted (R20). -/
def clkPin (s : State) : Bit := s.clk

/-- The logical `PRESENT` of a level of the `GND_DET` pin (R20). -/
def presentOfPin (g : Config) (level : Bit) : Bit := level == g.presentLevel

/-- The turn a change of the `GND_DET` pin to `level` is. -/
def turnOfGndDet (g : Config) (level : Bit) : Turn := .setPresent (presentOfPin g level)

/-- The turn a transition of the `TRIG` pin is: an edge in the `TRIG_EDGE` direction, and none in the
other (R20, R147). -/
def turnOfTrig (g : Config) (k : EdgeKind) : Option Turn :=
  if k = g.trigEdge then some .edge else none

/-! ### The pin actions of an event (R80 to R87) -/

/-- One action at the pins, in logical levels. -/
inductive PinAction where
  /-- `CLK` takes the level -/
  | clk (b : Bit)
  /-- `DATA` is driven with the value -/
  | data (b : Bit)
  /-- the level of `DATA`, driven by the chip, is sampled -/
  | sample (b : Bit)
  /-- the logical enable becomes the level -/
  | en (b : Bit)
  /-- the data direction becomes `d` -/
  | dir (d : Dir)
  /-- time passes (R8) -/
  | wait (t : Duration)
  /-- the outcome port takes a new value (R160) -/
  | outcome (kind : Bit) (arg : BitVec 2)
  deriving DecidableEq, Repr

/-- The waveform of an event (R15): the bit cycles of R83 and R84, the level changes of R80 and R81, the
delay of R87. -/
def waveform (g : Config) : Event → List PinAction
  | .en b => [.en b]
  | .dir d => [.dir d]
  | .tx v p => [.clk false, .data v, .wait (g.tLow.get p), .clk true, .wait (g.tHigh.get p)]
  | .rx v p => [.clk false, .wait (g.tLow.get p), .sample v, .clk true, .wait (g.tHigh.get p)]
  | .settle => [.wait g.tSettle]
  | .report k x => [.outcome k x]

/-- The waveform of `PulseArm()` entered with enable at `en` (R82), its two waits included. -/
def pulseArmWaveform (g : Config) (en : Bit) : List PinAction :=
  (if en then [] else [.en true]) ++
    [.wait g.tArmHold, .en false, .wait g.tArmGap, .en true]

/-! ### The outcome port (R140, R160) -/

/-- The outcome a kind and an argument name (R140); error sub-code 0 names none. -/
def outcomeOf (kind : Bit) (arg : BitVec 2) : Option CycleOutcome :=
  if kind then
    if arg = 1 then some .notFound
    else if arg = 2 then some .readInvalid
    else if arg = 3 then some .writeVerifyFailed
    else none
  else some (.success (colorOfCode arg))

/-- The outcome on the port, once one has been reported since reset (R31). -/
def portOutcome (s : State) : Option CycleOutcome :=
  if s.outValid then outcomeOf s.outKind s.outArg else none

/-! ### The source's state names (R132) -/

/-- The states of the source's whole-cycle state machine, and the tail it has no name for. -/
inductive SourceState where
  | idle | headerSent | discovering | found | notFound | reading | readValid | readInvalid | writing
  | writeVerified | writeVerifyFailed | reporting | trailerSent | tail
  deriving DecidableEq, Repr

/-- The source state of the sequencer's state between two steps (R132). `HeaderSent` and `Discovering` share
`upc = 0x02`: here it is the first, and in the step taken from there the second (`sourceStateInStep`). A
`upc` that R132 does not list has none. DEDUCED, safe (log entry 18). -/
def sourceState (s : State) : Option SourceState :=
  match s.upc.toNat with
  | 0x00 => some .idle
  | 0x02 => some .headerSent
  | 0x03 => some (if s.statOk then .found else .notFound)
  | 0x04 | 0x05 => some .reading
  | 0x06 => some (if s.statOk then .readValid else .readInvalid)
  | 0x07 | 0x08 | 0x09 | 0x0A => some .writing
  | 0x0B => some (if s.statOk then .writeVerified else .writeVerifyFailed)
  | 0x0C | 0x0E | 0x10 | 0x12 => some .reporting
  | 0x14 => some .trailerSent
  | 0x15 | 0x16 => some .tail
  | _ => none

/-- The source state that the engine's step taken from `s` is in (R132): `Discovering` is the DISCOVER step
at 0x02. `Idle` is before WAIT_GO's step, which has no name itself, and `TrailerSent` is before the CLEAR_BUF
step of the tail; every other row of R132 is the same in the step as before it. DEDUCED, safe (log
entry 18). -/
def sourceStateInStep (s : State) : Option SourceState :=
  match s.upc.toNat with
  | 0x00 => none
  | 0x02 => some .discovering
  | 0x14 => some .tail
  | _ => sourceState s

end Sys2Proof.Machine
end

