-- ==== Sys2Proof/Safety.lean ====
section
/-! DEFINITION. What a sound state and a sound run of CCPE are, in the terms the statements use. -/

namespace Sys2Proof.Machine

/-! ### The history against the lines (00_scope.md R15, 40_bit_io.md R80, R81, R89) -/

/-- The levels the history leaves the direction and the enable at: an `En` or `Dir` event is a change, a
`Tx` is made while the direction is Output and an `Rx` while it is Input. `none` where one is not so. -/
def replayEvent (line : Dir × Bit) : Event → Option (Dir × Bit)
  | .en b => if line.2 = b then none else some (line.1, b)
  | .dir d => if line.1 = d then none else some (d, line.2)
  | .tx _ _ => if line.1 = .output then some line else none
  | .rx _ _ => if line.1 = .input then some line else none
  | .settle => some line
  | .report _ _ => some line

/-- The levels after a list of events, from the levels `line` on. -/
def replay (line : Dir × Bit) (h : List Event) : Option (Dir × Bit) :=
  match h with
  | [] => some line
  | e :: rest =>
    match replayEvent line e with
    | some l => replay l rest
    | none => none

/-- The history, replayed from the reset levels, ends at the state's direction and enable. -/
def LinesFollowHistory (s : State) : Prop := replay (.output, false) s.hist = some (s.dir, s.en)

/-! ### Soundness of the registers -/

/-- Between two steps the clock is high (D40, R83, R84). -/
def ClockIdlesHigh (s : State) : Prop := s.clk = true

/-- The fault registers (R32, R142, R143, R146). -/
def FaultRegsSound (s : State) : Prop :=
  (s.fault = false → s.fcause = 0 ∧ s.fupc = 0) ∧
  (s.fault = true → 1 ≤ s.fcause.toNat ∧ s.fcause.toNat ≤ 5 ∧ s.fupc = s.upc)

/-- A valid image is a verified one of the discovered color, and a valid payload has a chip and a zero
counter byte (R28, R29, R117). -/
def BuffersSound (s : State) : Prop :=
  (s.imgValid = true → s.found = true ∧ verifyImage s.cfg s.img s.color = true) ∧
  (s.payValid = true → s.found = true ∧ s.pay[2] = 0)

/-- The kind and argument of the last `Report` event of a history. -/
def lastReport (h : List Event) : Option (Bit × BitVec 2) :=
  match h with
  | [] => none
  | e :: rest =>
    match lastReport rest, e with
    | some r, _ => some r
    | none, .report k a => some (k, a)
    | none, _ => none

/-- The outcome port shows the last `Report` event, and reads 0 before the first (R31, R160); an error
outcome has a sub-code of 1 to 3 (R69). -/
def PortShowsLastReport (s : State) : Prop :=
  (if s.outValid then some (s.outKind, s.outArg) else none) = lastReport s.hist ∧
  (s.outValid = false → s.outKind = false ∧ s.outArg = 0) ∧
  (s.outKind = true → s.outArg ≠ 0)

/-- While the trigger source is disabled, PendingTrigger is set (R57, R125, R126, R135). -/
def DisarmedMeansGo (s : State) : Prop := s.trigEn = false → s.go = true

/-- The ROM keeps its canonical form. -/
def RomSound (s : State) : Prop := s.rom.wf = true

/-- All of these. -/
structure StateSound (s : State) : Prop where
  lines : LinesFollowHistory s
  clock : ClockIdlesHigh s
  faultRegs : FaultRegsSound s
  buffers : BuffersSound s
  port : PortShowsLastReport s
  trigger : DisarmedMeansGo s
  rom : RomSound s

/-! ### The cycle program (45_sequencer.md R135, R137) -/

/-- What holds at each address the cycle program is at, between two engine steps: the stages that have
passed, and the trigger source disabled from 0x01 to 0x15. -/
def CyclePoint (s : State) : Prop :=
  s.upc.toNat ≤ 0x16 ∧
  (s.upc.toNat = 0x03 → s.statOk = true → s.found = true) ∧
  (0x04 ≤ s.upc.toNat ∧ s.upc.toNat ≤ 0x0D → s.found = true) ∧
  (s.upc.toNat = 0x06 → s.statOk = true → s.imgValid = true) ∧
  (s.upc.toNat = 0x07 → s.imgValid = true) ∧
  (0x08 ≤ s.upc.toNat ∧ s.upc.toNat ≤ 0x0A → s.payValid = true) ∧
  (0x01 ≤ s.upc.toNat ∧ s.upc.toNat ≤ 0x15 → s.trigEn = false ∧ s.go = true) ∧
  s.dir = .output

/-- The machine runs the cycle program and has not faulted. -/
structure CycleSound (s : State) : Prop where
  rom : s.rom = []
  running : s.fault = false
  point : CyclePoint s

/-- A cycle from `s` ends after `n` steps back at 0x00 with the outcome `o` on the port and `k` more events
in the history (R138). -/
def CycleEnds (n : Nat) (s : State) (o : CycleOutcome) (k : Nat) : Prop :=
  ∃ t : State, Host.Core.run Sys2Proof.core n s = .next t ∧ t.upc = 0x00 ∧ t.go = false ∧
    portOutcome t = some o ∧ t.hist.length = s.hist.length + k

/-! ### Faults of each operation (60_exceptions.md R144, R152) -/

/-- The fault an operation raises in a state, by the table of R144 and the check order of R152. -/
def faultOf (i : Instr) (s : State) : Option FaultCause :=
  match i with
  | .sendBit _ _ => if s.dir = .output then none else some .directionError
  | .recvBit _ => if s.dir = .input then none else some .directionError
  | .readBlock _ | .verify | .reportSuccess => if s.found then none else some .noChip
  | .buildPayload => if s.imgValid then none else some .noValidImage
  | .writePayload | .readbackCmp =>
    if !s.found then some .noChip else if !s.payValid then some .noPayload else none
  | .reserved00 _ | .reserved15 _ | .reserved16 _ | .reserved17 _ | .reserved18 _ | .reserved19 _
  | .reserved1A _ | .reserved1B _ | .reserved1C _ | .reserved1D _ | .reserved1E _
  | .reserved1F _ => some .illegalOp
  | .pulseArm | .enOff | .setDir _ | .settle | .sense | .discover | .sendFrame _ | .clearBuf
  | .waitGo | .arm | .reportError _ | .jmp _ | .brf _ => none

/-! ### Timing tags (40_bit_io.md R88) -/

/-- An event with its timing tag forgotten. -/
def untagEvent : Event → Event
  | .tx v _ => .tx v .dr
  | .rx v _ => .rx v .dr
  | .en b => .en b
  | .dir d => .dir d
  | .settle => .settle
  | .report k a => .report k a

/-- A state whose history has no timing tags. -/
def untag (s : State) : State := { s with hist := s.hist.map untagEvent }

/-! ### Well-formed configurations, as R7 states them -/

/-- R7 (a) to (f) over the colors. -/
structure ConfigConditions (g : Config) : Prop where
  readInjective : ∀ x y, g.readAddr.get x = g.readAddr.get y → x = y
  writeInjective : ∀ x y, g.writeAddr.get x = g.writeAddr.get y → x = y
  readNotWrite : ∀ x y, g.readAddr.get x ≠ g.writeAddr.get y
  readNibbles : ∀ x y,
    (g.readAddr.get x).extractLsb' 4 4 = (g.readAddr.get y).extractLsb' 4 4 → x = y
  writeNibbles : ∀ x y,
    (g.writeAddr.get x).extractLsb' 4 4 = (g.writeAddr.get y).extractLsb' 4 4 → x = y
  nibblesApart : ∀ x y,
    (g.readAddr.get x).extractLsb' 4 4 ≠ (g.writeAddr.get y).extractLsb' 4 4

end Sys2Proof.Machine
end

