-- ==== Sys2Proof/Certificates/Slice0/Obligations.lean ====
section
/-! DEFINITION. The statements for the provers. An equation `exec i s = .next { s with … }` states the
instruction's whole effect: every field it does not name, every byte of `IMG` and `PAY` and every word of
the ROM among them, is unchanged. -/

open Sys2Proof Sys2Proof.Machine

/-! ### The primitive operations (40_bit_io.md) -/

/-- R82, R91: PULSE_ARM leaves enable asserted and records the pulse. -/
def Obligations.PulseArmRecordsThePulse : Prop :=
  encode .pulseArm = 0x0800 ∧ ∀ s : State, exec .pulseArm s = .next { s with
    en := true
    hist := s.hist ++ (if s.en then [.en false, .en true] else [.en true, .en false, .en true])
    upc := s.upc + 1 }

/-- R80, R92: EN_OFF deasserts enable and records only a change. -/
def Obligations.EnOffDeassertsEnable : Prop :=
  encode .enOff = 0x1000 ∧ ∀ s : State, exec .enOff s = .next { s with
    en := false
    hist := s.hist ++ (if s.en then [.en false] else [])
    upc := s.upc + 1 }

/-- R81, R93: SET_DIR sets the direction and records only a change. -/
def Obligations.SetDirSetsTheDirection : Prop :=
  encode (.setDir .output) = 0x1800 ∧ encode (.setDir .input) = 0x1801 ∧ ∀ (d : Dir) (s : State), exec (.setDir d) s = .next { s with
    dir := d
    hist := s.hist ++ (if s.dir = d then [] else [.dir d])
    upc := s.upc + 1 }

/-- R94: SEND_BIT transmits its bit while the line is an output, and faults while it is an input. -/
def Obligations.SendBitTransmitsOrFaults : Prop :=
  ∀ (p : Profile) (v : Bit) (s : State),
    encode (.sendBit p v) = 0x2000#16 ||| ((fieldOfProfile p).setWidth 16 <<< 1) |||
      (BitVec.ofBool v).setWidth 16 ∧
    (s.dir = .output → exec (.sendBit p v) s = .next { s with
      clk := true, dataOut := v, hist := s.hist ++ [.tx v p], upc := s.upc + 1 }) ∧
    (s.dir = .input → exec (.sendBit p v) s = .next { s with
      fault := true, fcause := 2, fupc := s.upc })

/-- R95: RECV_BIT shifts the chip's bit into RXB while the line is an input, and faults while it is an
output. The bit is any bit. That it is the first listed answer where the state lists one, and that it uses
up that answer and one choice, is the model's choice (log entry 6). -/
def Obligations.RecvBitShiftsTheSampledBit : Prop :=
  ∀ (p : Profile) (s : State),
    encode (.recvBit p) = 0x2800#16 ||| ((fieldOfProfile p).setWidth 16 <<< 1) ∧
    (s.dir = .input → ∃ b : Bit, AnsweredBy [b] s.answers ∧ exec (.recvBit p) s = .next { s with
      clk := true
      rxb := s.rxb.extractLsb' 0 7 ++ BitVec.ofBool b
      hist := s.hist ++ [.rx b p]
      answers := s.answers.drop 1
      choice := s.choice + 1
      upc := s.upc + 1 }) ∧
    (s.dir = .output → exec (.recvBit p) s = .next { s with
      fault := true, fcause := 2, fupc := s.upc })

/-- R87, R96: SETTLE appends one event and changes no register but `upc`. -/
def Obligations.SettleOnlyAppendsItsEvent : Prop :=
  encode .settle = 0x3000 ∧ ∀ s : State, exec .settle s = .next { s with
    hist := s.hist ++ [.settle], upc := s.upc + 1 }

/-- R97: SENSE copies PRESENT into STAT_OK and records nothing. -/
def Obligations.SenseCopiesPresent : Prop :=
  encode .sense = 0x3800 ∧ ∀ s : State, exec .sense s = .next { s with statOk := s.present, upc := s.upc + 1 }

/-- R43: every value goes over the wire most significant bit first, in both directions. That receiving
takes the listed answers and uses up exactly those is the model's choice (log entry 6). -/
def Obligations.WireIsMostSignificantBitFirst : Prop :=
  (∀ (w : Nat) (x : BitVec w) (n : Nat) (p : Profile) (s : State),
    (sendBits x n p s).hist = s.hist ++ (msbBits x n).map (fun v => Event.tx v p)) ∧
  (∀ (n : Nat) (x : BitVec n) (p : Profile) (s : State) (rest : List Bit),
    s.answers = msbBits x n ++ rest →
      (recvBits n p s).1 = x ∧ (recvBits n p s).2.answers = rest ∧
      (recvBits n p s).2.hist = s.hist ++ (msbBits x n).map (fun v => Event.rx v p))

/-- R88: the profile changes the timing tags of the events and nothing else, where the chip's answers do
not depend on the tags, because they are listed (the model's choice, log entry 6). -/
def Obligations.ProfileChangesOnlyTheTimingTags : Prop :=
  ∀ (p q : Profile) (v : Bit) (s : State),
    mapNext untag (exec (.sendBit p v) s) = mapNext untag (exec (.sendBit q v) s) ∧
    (1 ≤ s.answers.length →
      mapNext untag (exec (.recvBit p) s) = mapNext untag (exec (.recvBit q) s)) ∧
    (252 ≤ s.answers.length →
      mapNext untag (exec (.readBlock p) s) = mapNext untag (exec (.readBlock q) s))

/-! ### Discovery (41_discovery.md) -/

/-- R98 to R103: with no chip present DISCOVER probes nothing and leaves the lines at rest; with a chip
present it probes the colors in order and takes the first whose response nibble `r` is ACK. The responses
are the chip's: any nibbles. That they are the listed answers as far as those go, and what is used up of
`answers` and `choice`, is the model's choice (log entry 6). -/
def Obligations.DiscoverTakesTheFirstAcknowledgedColor : Prop :=
  encode .discover = 0x4000 ∧
  (∀ s : State, s.present = false → exec .discover s = .next { s with
    found := false, statOk := false, imgValid := false, payValid := false
    dir := .output, en := false
    hist := s.hist ++ (if s.dir = .output then [] else [.dir .output])
      ++ (if s.en then [.en false] else [])
    upc := s.upc + 1 }) ∧
  (∀ s : State, s.present = true → ∃ r : PerColor Nibble,
    AnsweredBy (discoverAnswers s.cfg.ack r) s.answers ∧
    exec .discover s = .next { s with
      found := (probed s.cfg.ack r probeOrder).2.isSome
      statOk := (probed s.cfg.ack r probeOrder).2.isSome
      color := (probed s.cfg.ack r probeOrder).2.getD s.color
      imgValid := false
      payValid := false
      en := (probed s.cfg.ack r probeOrder).2.isSome
      dir := .output
      clk := true
      dataOut := (idNibble s.cfg ((probed s.cfg.ack r probeOrder).2.getD .d)).getLsbD 0
      hist := s.hist ++ probesEvents s.cfg r s.en s.dir (probed s.cfg.ack r probeOrder).1
        ++ (if (probed s.cfg.ack r probeOrder).2.isSome then [] else [.en false])
      answers := s.answers.drop (4 * (probed s.cfg.ack r probeOrder).1.length)
      choice := s.choice + 4 * (probed s.cfg.ack r probeOrder).1.length
      upc := s.upc + 1 })

/-- R104: the number of events a DISCOVER records that is entered with the lines at rest. -/
def Obligations.DiscoverEventCounts : Prop :=
  ∀ s t : State, s.en = false → s.dir = .output → exec .discover s = .next t →
    t.hist.length = s.hist.length +
      (if s.present then if t.found then 13 + 12 * (colorCode t.color).toNat else 50 else 0)

/-! ### Frames (42_frame.md) -/

/-- R105: SEND_FRAME sends the selected frame between a pulse and the deasserted enable. -/
def Obligations.SendFrameSendsTheSelectedFrame : Prop :=
  encode (.sendFrame .header) = 0x4800 ∧ encode (.sendFrame .trailer) = 0x4801 ∧ ∀ (f : FrameId) (s : State), exec (.sendFrame f) s = .next { s with
    en := false
    dir := .output
    clk := true
    dataOut := (match f with
      | .header => s.cfg.headerFrame[9]
      | .trailer => s.cfg.trailerFrame[9]).getLsbD 0
    hist := s.hist ++ pulseEvents s.en ++ dirEvents s.dir .output
      ++ (match f with
          | .header => s.cfg.headerFrame
          | .trailer => s.cfg.trailerFrame).toList.flatMap
            (fun x => (msbBits x 8).map (fun v => Event.tx v .dr))
      ++ [.en false]
    upc := s.upc + 1 }

/-- R107, for a SEND_FRAME entered with the direction at Output, as every operation of the cycle program
leaves it: 84 or 83 events, and `DATA_OUT = 0` after a default frame. -/
def Obligations.SendFrameEventCounts : Prop :=
  ∀ (f : FrameId) (s : State), s.dir = .output → ∃ t : State, exec (.sendFrame f) s = .next t ∧
    t.hist.length = s.hist.length + (if s.en then 83 else 84) ∧
    (s.cfg = defaultConfig → t.dataOut = false)

/-! ### The block reader (43_block_read.md) -/

/-- R108 to R111: READ_BLOCK of a discovered chip addresses it afresh, receives 252 bits and fills the
image from them; with no chip discovered it faults. The bits are any bits. That they are the listed answers
as far as those go, and what is used up of `answers` and `choice`, is the model's choice (log entry 6). -/
def Obligations.ReadBlockFillsTheImageOrFaults : Prop :=
  ∀ (p : Profile) (s : State),
    encode (.readBlock p) = 0x5000#16 ||| ((fieldOfProfile p).setWidth 16 <<< 1) ∧
    (s.found = true → ∃ bs : List Bit, bs.length = 252 ∧ AnsweredBy bs s.answers ∧
      exec (.readBlock p) s = .next { s with
        imgValid := false
        img := imageOfBits ((s.cfg.readAddr.get s.color).extractLsb' 4 4) bs
        en := false
        dir := .output
        clk := true
        dataOut := (s.cfg.readAddr.get s.color).getLsbD 4
        hist := s.hist ++ pulseEvents s.en ++ dirEvents s.dir .output
          ++ txEvents ((s.cfg.readAddr.get s.color).extractLsb' 4 4) 4 .dr ++ [.dir .input]
          ++ bs.map (fun v => Event.rx v p) ++ [.en false, .dir .output]
        answers := s.answers.drop 252
        choice := s.choice + 252
        upc := s.upc + 1 }) ∧
    (s.found = false → exec (.readBlock p) s = .next { s with
      fault := true, fcause := 3, fupc := s.upc })

/-- The event counts of R109's corner cases. -/
def Obligations.ReadBlockEventCounts : Prop :=
  ∀ (p : Profile) (s : State), s.found = true → s.dir = .output →
    ∃ t : State, exec (.readBlock p) s = .next t ∧
      t.hist.length = s.hist.length + (if s.en then 261 else 262)

/-- R112, R113: VERIFY writes whether the image passes the invariants into STAT_OK and IMG_VALID; with no
chip discovered it faults. -/
def Obligations.VerifyWritesTheInvariantsOrFaults : Prop :=
  encode .verify = 0x5800 ∧ ∀ s : State,
    (s.found = true → ∃ ok : Bit,
      (ok = true ↔
        s.img[0].extractLsb' 4 4 = (s.cfg.readAddr.get s.color).extractLsb' 4 4 ∧
        s.img[0].extractLsb' 0 4 = s.cfg.ack ∧
        s.img[12] = (s.cfg.expectedId.get s.color).1 ∧
        s.img[13] = (s.cfg.expectedId.get s.color).2 ∧
        s.img[29] = s.cfg.trailerSig[0] ∧
        s.img[30] = s.cfg.trailerSig[1] ∧
        s.img[31] = s.cfg.trailerSig[2]) ∧
      exec .verify s = .next { s with statOk := ok, imgValid := ok, upc := s.upc + 1 }) ∧
    (s.found = false → exec .verify s = .next { s with
      fault := true, fcause := 3, fupc := s.upc })

/-- R114: which single-byte changes void a verified image. -/
def Obligations.VerifiedImageBoundary : Prop :=
  ∀ (g : Config) (img : Vector Byte 32) (col : Color), verifyImage g img col = true →
    ∀ (k : Fin 32) (x : Byte), x ≠ img[k] →
      verifyImage g (img.set k x) col =
        decide ((1 ≤ k.val ∧ k.val ≤ 11) ∨ (14 ≤ k.val ∧ k.val ≤ 28))

/-! ### The counter writer (44_counter_write.md) -/

/-- R116, R117: BUILD_PAYLOAD copies image offsets 1 to 4 with the counter byte zero; without a valid image
it faults. -/
def Obligations.BuildPayloadZeroesTheCounterOrFaults : Prop :=
  encode .buildPayload = 0x6000 ∧ ∀ s : State,
    (s.imgValid = true → exec .buildPayload s = .next { s with
      pay := #v[s.img[1], s.img[2], 0x00, s.img[4]], payValid := true, upc := s.upc + 1 }) ∧
    (s.imgValid = false → exec .buildPayload s = .next { s with
      fault := true, fcause := 4, fupc := s.upc })

/-- R118 to R120: WRITE_PAYLOAD addresses the chip with its write nibble and sends the four bytes, each
with a settle after it, every bit with profile WR; without a chip, and then without a payload, it faults. -/
def Obligations.WritePayloadSendsThePayloadOrFaults : Prop :=
  encode .writePayload = 0x6800 ∧ ∀ s : State,
    (s.found = true → s.payValid = true → exec .writePayload s = .next { s with
      en := false
      dir := .output
      clk := true
      dataOut := s.pay[3].getLsbD 0
      hist := s.hist ++ pulseEvents s.en ++ dirEvents s.dir .output
        ++ txEvents ((s.cfg.writeAddr.get s.color).extractLsb' 4 4) 4 .wr
        ++ (txEvents s.pay[0] 8 .wr ++ [.settle]) ++ (txEvents s.pay[1] 8 .wr ++ [.settle])
        ++ (txEvents s.pay[2] 8 .wr ++ [.settle]) ++ (txEvents s.pay[3] 8 .wr ++ [.settle])
        ++ [.en false]
      upc := s.upc + 1 }) ∧
    (s.found = false → exec .writePayload s = .next { s with
      fault := true, fcause := 3, fupc := s.upc }) ∧
    (s.found = true → s.payValid = false → exec .writePayload s = .next { s with
      fault := true, fcause := 5, fupc := s.upc })

/-- R121: READBACK_CMP passes an image that keeps the invariants and holds the payload at offsets 1 to 4;
without a chip, and then without a payload, it faults. -/
def Obligations.ReadbackCmpComparesOrFaults : Prop :=
  encode .readbackCmp = 0x7000 ∧ ∀ s : State,
    (s.found = true → s.payValid = true → ∃ ok : Bit,
      (ok = true ↔ verifyImage s.cfg s.img s.color = true ∧ s.img[1] = s.pay[0] ∧
        s.img[2] = s.pay[1] ∧ s.img[3] = s.pay[2] ∧ s.img[4] = s.pay[3]) ∧
      exec .readbackCmp s = .next { s with statOk := ok, upc := s.upc + 1 }) ∧
    (s.found = false → exec .readbackCmp s = .next { s with
      fault := true, fcause := 3, fupc := s.upc }) ∧
    (s.found = true → s.payValid = false → exec .readbackCmp s = .next { s with
      fault := true, fcause := 5, fupc := s.upc })

/-- R123 (b): after a write, a read-back that keeps the invariants passes exactly when the chip answers the
payload at image offsets 1 to 4. `m` is what the chip answers as its bytes 1 to 31, given as listed answers
(the model's choice, log entry 6). -/
def Obligations.ReadbackPassesExactlyWhenThePayloadWasStored : Prop :=
  ∀ (s : State) (m : Vector Byte 31) (rest : List Bit),
    s.found = true → s.payValid = true →
    s.answers = msbBits s.cfg.ack 4 ++ m.toList.flatMap (fun x => msbBits x 8) ++ rest →
    m[11] = (s.cfg.expectedId.get s.color).1 → m[12] = (s.cfg.expectedId.get s.color).2 →
    m[28] = s.cfg.trailerSig[0] → m[29] = s.cfg.trailerSig[1] → m[30] = s.cfg.trailerSig[2] →
    ∃ u v t : State, exec .writePayload s = .next u ∧ exec (.readBlock .fast) u = .next v ∧
      exec .readbackCmp v = .next t ∧
      (∀ k : Fin 31, v.img[k.val + 1] = m[k]) ∧
      (t.statOk = true ↔
        m[0] = s.pay[0] ∧ m[1] = s.pay[1] ∧ m[2] = s.pay[2] ∧ m[3] = s.pay[3])

/-! ### The control and cycle operations (45_sequencer.md) -/

/-- R125: WAIT_GO with `GO = 1` disables the trigger source and goes on; `GO` stays 1. -/
def Obligations.WaitGoPassesOnPendingTrigger : Prop :=
  encode .waitGo = 0x8000 ∧ ∀ s : State, s.go = true → exec .waitGo s = .next { s with trigEn := false, upc := s.upc + 1 }

/-- R126: ARM clears the latch and PendingTrigger and enables the trigger source. -/
def Obligations.ArmClearsAndEnablesTheTrigger : Prop :=
  encode .arm = 0x8800 ∧ ∀ s : State, exec .arm s = .next { s with
    edgePend := false, go := false, trigEn := true, upc := s.upc + 1 }

/-- R127: REPORT posts the outcome; `REPORT success` with no chip discovered faults. R127 gives the error
sub-codes 1 to 3; that the term `reportError 0`, which no word decodes to (R69), posts the sub-code 0 and
encodes to 0x9400 is the model's choice (log entry 15). -/
def Obligations.ReportPostsTheOutcomeOrFaults : Prop :=
  encode .reportSuccess = 0x9000 ∧
  (∀ a : BitVec 2, encode (.reportError a) = 0x9400#16 ||| a.setWidth 16) ∧ ∀ s : State,
    (s.found = true → exec .reportSuccess s = .next { s with
      outValid := true, outKind := false, outArg := colorCode s.color
      hist := s.hist ++ [.report false (colorCode s.color)], upc := s.upc + 1 }) ∧
    (s.found = false → exec .reportSuccess s = .next { s with
      fault := true, fcause := 3, fupc := s.upc }) ∧
    (∀ a : BitVec 2, exec (.reportError a) s = .next { s with
      outValid := true, outKind := true, outArg := a
      hist := s.hist ++ [.report true a], upc := s.upc + 1 })

/-- R128: CLEAR_BUF zeroes both buffers and their valid flags, and nothing else. -/
def Obligations.ClearBufZeroesTheBuffers : Prop :=
  encode .clearBuf = 0x7800 ∧ ∀ s : State, exec .clearBuf s = .next { s with
    img := Vector.replicate 32 0x00, pay := Vector.replicate 4 0x00
    imgValid := false, payValid := false, upc := s.upc + 1 }

/-- R129: JMP goes to its target. -/
def Obligations.JmpGoesToItsTarget : Prop :=
  ∀ (a : BitVec 8) (s : State), encode (.jmp a) = 0x9800#16 ||| a.setWidth 16 ∧
    exec (.jmp a) s = .next { s with upc := a }

/-- R130: BRF goes to its target exactly when STAT_OK is 0. -/
def Obligations.BrfBranchesOnFailure : Prop :=
  ∀ (a : BitVec 8) (s : State),
    encode (.brf a) = 0xA000#16 ||| a.setWidth 16 ∧
    (s.statOk = false → exec (.brf a) s = .next { s with upc := a }) ∧
    (s.statOk = true → exec (.brf a) s = .next { s with upc := s.upc + 1 })

/-- R75: a word of opcode 0x00 or 0x15 to 0x1F raises IllegalOp. That it decodes to a reserved constructor,
whose meaning raises the fault, is the model's choice (log entry 14): R75 says the word decodes to
IllegalOp. -/
def Obligations.ReservedOpcodesRaiseIllegalOp : Prop :=
  (∀ w : Word16, ((w.extractLsb' 11 5).toNat = 0x00 ∨ 0x15 ≤ (w.extractLsb' 11 5).toNat) →
    ∃ i : Instr, i.isReserved = true ∧ decode w = .ok i) ∧
  (∀ (i : Instr) (s : State), i.isReserved = true →
    exec i s = .next { s with fault := true, fcause := 1, fupc := s.upc })

/-! ### What every operation keeps -/

/-- R142, R144, R145, R152: each operation raises exactly the fault the table gives it, in the check order,
with nothing else changed; otherwise it completes and leaves the fault registers alone. Model's choices in
it: WAIT_GO with `GO = 0`, to which R124 and R125 give no step, answers the same state (log entry 9); the
words of the reserved opcodes are constructors that raise IllegalOp (log entry 14); the term `reportError 0`,
which no word decodes to and whose word R69 makes IllegalOp, raises no fault (log entry 15). -/
def Obligations.OperationsRaiseExactlyTheirFaults : Prop :=
  ∀ (i : Instr) (s : State),
    (∀ x : FaultCause, faultOf i s = some x → exec i s = .next { s with
      fault := true, fcause := causeCode x, fupc := s.upc }) ∧
    (faultOf i s = none → ∃ t : State, exec i s = .next t ∧
      t.fault = s.fault ∧ t.fcause = s.fcause ∧ t.fupc = s.fupc)

/-- R22: where an operation goes on to. That `exec` of a WAIT_GO that holds answers a next state is the
model's choice (log entry 9). -/
def Obligations.UpcAdvancesExceptOnBranches : Prop :=
  ∀ (i : Instr) (s t : State), exec i s = .next t →
    (faultOf i s ≠ none → t.upc = s.upc) ∧
    (faultOf i s = none → ∀ a : BitVec 8, i = .jmp a → t.upc = a) ∧
    (faultOf i s = none → ∀ a : BitVec 8, i = .brf a →
      t.upc = if s.statOk then s.upc + 1 else a) ∧
    (faultOf i s = none → i = .waitGo → t.upc = if s.go then s.upc + 1 else s.upc) ∧
    (faultOf i s = none → (∀ a, i ≠ .jmp a) → (∀ a, i ≠ .brf a) → i ≠ .waitGo →
      t.upc = s.upc + 1)

/-- R25 to R27, R31, R149: no register of these is written by any operation but its writers. -/
def Obligations.RegistersHaveOnlyTheirWriters : Prop :=
  ∀ (i : Instr) (s t : State), exec i s = .next t →
    ((∀ p, i ≠ .recvBit p) → t.rxb = s.rxb) ∧
    (i ≠ .sense → i ≠ .discover → i ≠ .verify → i ≠ .readbackCmp → t.statOk = s.statOk) ∧
    (i ≠ .discover → t.found = s.found ∧ t.color = s.color) ∧
    (i ≠ .waitGo → i ≠ .arm → t.trigEn = s.trigEn) ∧
    (i ≠ .arm → t.go = s.go ∧ t.edgePend = s.edgePend) ∧
    (i ≠ .reportSuccess → (∀ a, i ≠ .reportError a) →
      t.outValid = s.outValid ∧ t.outKind = s.outKind ∧ t.outArg = s.outArg)

/-- R28, R29, R34, R35: no buffer and no valid flag is written by any operation but its writers. -/
def Obligations.BuffersHaveOnlyTheirWriters : Prop :=
  ∀ (i : Instr) (s t : State), exec i s = .next t →
    ((∀ p, i ≠ .readBlock p) → i ≠ .clearBuf → t.img = s.img) ∧
    (i ≠ .buildPayload → i ≠ .clearBuf → t.pay = s.pay) ∧
    (i ≠ .verify → (∀ p, i ≠ .readBlock p) → i ≠ .clearBuf → i ≠ .discover →
      t.imgValid = s.imgValid) ∧
    (i ≠ .buildPayload → i ≠ .clearBuf → i ≠ .discover → t.payValid = s.payValid)

/-- R15, R56: an operation only appends to the history, and only REPORT appends a `Report`. -/
def Obligations.OperationsOnlyAppendToTheHistory : Prop :=
  ∀ (i : Instr) (s t : State), exec i s = .next t → ∃ ev : List Event,
    t.hist = s.hist ++ ev ∧
    (i ≠ .reportSuccess → (∀ a, i ≠ .reportError a) → ∀ k a, Event.report k a ∉ ev)

/-- R55, R153: an edge and an operation other than ARM may come in either order, and so may a delivery and
an operation other than ARM and WAIT_GO. -/
def Obligations.TriggerStepsCommuteWithOperations : Prop :=
  ∀ (i : Instr) (s : State), i ≠ .arm →
    exec i (edgeStep s) = mapNext edgeStep (exec i s) ∧
    (i ≠ .waitGo → exec i (deliverStep s) = mapNext deliverStep (exec i s))

/-! ### Encoding (30_encoding.md) -/

/-- R62 to R72: every well-formed operation is read back from its word. The constructors of the reserved
opcodes are the model's choice (log entry 14). -/
def Obligations.DecodeOfEncodeIsTheOperation : Prop :=
  ∀ i : Instr, i.wf = true → decode (encode i) = .ok i

/-- R72, R74: a word that decodes is the word of what it decodes to, which is well formed. -/
def Obligations.EncodeOfDecodeIsTheWord : Prop :=
  ∀ (w : Word16) (i : Instr), decode w = .ok i → encode i = w ∧ i.wf = true

/-- R71: the complete list of legal words. -/
def Obligations.LegalWordsAreTheListedOnes : Prop :=
  ∀ w : Word16, isLegalWord w = true ↔
    w ∈ ([0x0800, 0x1000, 0x1800, 0x1801, 0x2000, 0x2001, 0x2002, 0x2003, 0x2004, 0x2005, 0x2800,
      0x2802, 0x2804, 0x3000, 0x3800, 0x4000, 0x4800, 0x4801, 0x5000, 0x5002, 0x5004, 0x5800, 0x6000,
      0x6800, 0x7000, 0x7800, 0x8000, 0x8800, 0x9000, 0x9401, 0x9402, 0x9403] : List Word16) ∨
    (∃ a : BitVec 8, w = 0x98#8 ++ a) ∨ (∃ a : BitVec 8, w = 0xA0#8 ++ a)

/-- Words written out from the formats of R63, and the operations of R71 they are. -/
def Obligations.SampleWordsDecode : Prop :=
  decode 0b0000100000000000 = .ok .pulseArm ∧
  decode 0b0001100000000001 = .ok (.setDir .input) ∧
  decode 0b0010000000000101 = .ok (.sendBit .wr true) ∧
  decode 0b0100000000000000 = .ok .discover ∧
  decode 0b0100100000000001 = .ok (.sendFrame .trailer) ∧
  decode 0b0101000000000010 = .ok (.readBlock .fast) ∧
  decode 0b0110100000000000 = .ok .writePayload ∧
  decode 0b1001010000000011 = .ok (.reportError 3) ∧
  decode 0b1001100011111111 = .ok (.jmp 0xFF) ∧
  decode 0b1010000000001110 = .ok (.brf 0x0E) ∧
  decode 0b0010000000000110 = .error .reservedProfile ∧
  decode 0b1001010000000000 = .error .illegalReport ∧
  decode 0b0000100000000001 = .error .mustBeZero

/-! ### The step -/

/-- R124: a step of the engine runs the operation the word at `upc` decodes to. With an empty agenda the
engine goes first (the model's choice, log entry 7); with a scheduled turn that turn is used up. -/
def Obligations.StepRunsTheDecodedOperation : Prop :=
  ∀ (s : State) (i : Instr), configWf s.cfg = true → s.resetIn = false → s.fault = false →
    decode (s.rom.read s.upc.toNat) = .ok i → ¬(i = .waitGo ∧ s.go = false) →
    (s.agenda = [] → step s = exec i s) ∧
    (∀ rest : List Turn, s.agenda = .engine :: rest → step s = exec i { s with agenda := rest })

/-- R73: a word that is no operation raises IllegalOp, with `upc` and every other register unchanged. That
the engine goes first with an empty agenda is the model's choice (log entry 7). -/
def Obligations.IllegalWordRaisesIllegalOp : Prop :=
  ∀ s : State, configWf s.cfg = true → s.resetIn = false → s.fault = false →
    isLegalWord (s.rom.read s.upc.toNat) = false →
    (s.agenda = [] → step s = .next { s with fault := true, fcause := 1, fupc := s.upc }) ∧
    (∀ rest : List Turn, s.agenda = .engine :: rest → step s = .next { s with
      agenda := rest, fault := true, fcause := 1, fupc := s.upc })

/-- The model's choice, log entries 7 and 9: an engine that holds at WAIT_GO passes its turn; with an empty
agenda a pending edge is delivered, and otherwise nothing changes. -/
def Obligations.HoldingEngineWaits : Prop :=
  ∀ s : State, configWf s.cfg = true → s.resetIn = false → s.fault = false →
    decode (s.rom.read s.upc.toNat) = .ok .waitGo → s.go = false →
    exec .waitGo s = .next s ∧
    (∀ rest : List Turn, s.agenda = .engine :: rest → step s = .next { s with agenda := rest }) ∧
    (s.agenda = [] → s.trigEn = true → s.edgePend = true →
      step s = .next { s with go := true, edgePend := false }) ∧
    (s.agenda = [] → (s.trigEn && s.edgePend) = false → step s = .next s)

/-- R146: while `FAULT = 1` no turn but a change of RESET changes anything besides EDGE_PEND, GO and the
inputs; the engine takes no step, and a delivery is still taken. That a scheduled turn of the engine passes
with no effect, and that with an empty agenda a delivery comes where it is enabled and the machine is stuck
(`engineHalted`) where it is not, is the model's choice (log entries 7 and 9). -/
def Obligations.FaultedEngineTakesNoStep : Prop :=
  ∀ s : State, configWf s.cfg = true → s.resetIn = false → s.fault = true →
    (∀ (x : Turn) (rest : List Turn), s.agenda = x :: rest → (∀ b, x ≠ .setReset b) →
      ∃ t : State, step s = .next t ∧
        t = { s with
          edgePend := t.edgePend, go := t.go, present := t.present, agenda := rest } ∧
        (x = .engine → t = { s with agenda := rest })) ∧
    (s.agenda = [] → s.trigEn = true → s.edgePend = true →
      step s = .next { s with go := true, edgePend := false }) ∧
    (s.agenda = [] → (s.trigEn && s.edgePend) = false → step s = .fault .engineHalted)

/-- R147, R148: the two steps of the trigger unit; an edge is a transition in the `TRIG_EDGE` direction
(R20). That a delivery turn that is not enabled passes with no effect is the model's choice (log entry 7). -/
def Obligations.TriggerUnitLatchesAndDelivers : Prop :=
  ∀ (s : State) (rest : List Turn), configWf s.cfg = true → s.resetIn = false →
    (∀ k : EdgeKind, turnOfTrig s.cfg k = some .edge ↔ k = s.cfg.trigEdge) ∧
    (s.agenda = .edge :: rest → step s = .next { s with agenda := rest, edgePend := true }) ∧
    (s.agenda = .deliver :: rest → s.trigEn = true → s.edgePend = true →
      step s = .next { s with agenda := rest, go := true, edgePend := false }) ∧
    (s.agenda = .deliver :: rest → (s.trigEn && s.edgePend) = false →
      step s = .next { s with agenda := rest })

/-- R20, R24: a change of the `GND_DET` pin sets PRESENT to 1 exactly at the level `PRESENT_LEVEL`, at any
time, and changes nothing else. That the input changes by a scheduled turn between steps is the model's
choice (log entry 2). -/
def Obligations.PresentFollowsItsPin : Prop :=
  ∀ (s : State) (rest : List Turn), configWf s.cfg = true →
    (∀ level : Bit, turnOfGndDet s.cfg level = .setPresent (decide (level = s.cfg.presentLevel))) ∧
    (∀ b : Bit, s.agenda = .setPresent b :: rest →
      step s = .next { s with present := b, agenda := rest })

/-- R150: an edge before ARM's step is discarded; one after it is latched and delivered, and lets WAIT_GO
pass. -/
def Obligations.ArmDecidesTheRearmWindow : Prop :=
  ∀ s : State, exec .arm (edgeStep s) = exec .arm s ∧
    ∀ t : State, exec .arm s = .next t →
      deliverEnabled t = false ∧ deliverEnabled (edgeStep t) = true ∧
      (deliverStep (edgeStep t)).go = true ∧
      ∃ u : State, exec .waitGo (deliverStep (edgeStep t)) = .next u ∧ u.upc = t.upc + 1

/-- R166: asserting RESET puts the state tuple at its reset value, and while it is asserted no agent
changes it and no edge is latched. That releasing it changes nothing else, that a turn of an agent under
RESET, or one with an empty agenda, puts the tuple at its reset value again, and that PRESENT may change
meanwhile, is the model's choice (log entry 16). -/
def Obligations.ResetTakesPrecedence : Prop :=
  ∀ (s : State) (rest : List Turn), configWf s.cfg = true →
    (s.agenda = .setReset true :: rest →
      step s = .next { s with toArch := Arch.reset, agenda := rest, resetIn := true }) ∧
    (s.agenda = .setReset false :: rest →
      step s = .next { s with agenda := rest, resetIn := false }) ∧
    (s.resetIn = true → ∀ x : Turn, x = .engine ∨ x = .edge ∨ x = .deliver →
      s.agenda = x :: rest → step s = .next { s with toArch := Arch.reset, agenda := rest }) ∧
    (s.resetIn = true → s.agenda = [] → step s = .next { s with toArch := Arch.reset }) ∧
    (s.resetIn = true → ∀ b : Bit, s.agenda = .setPresent b :: rest →
      step s = .next { s with present := b, agenda := rest })

/-- R166: while RESET is asserted every field of the state tuple is at its reset value, and every step, of
any agent and at any input, keeps this. -/
def Obligations.StateTupleIsAtResetUnderReset : Prop :=
  ∀ s t : State, (s.resetIn = true → s.toArch = Arch.reset) → step s = .next t →
    (t.resetIn = true → t.toArch = Arch.reset)

/-- R33, R39, R166: the reset values, and STATUS at reset. -/
def Obligations.ResetValues : Prop :=
  State.reset.toArch =
    { upc := 0x00, clk := true, dataOut := false, dir := .output, en := false, rxb := 0x00
      statOk := false, found := false, color := .a, imgValid := false, payValid := false
      img := Vector.replicate 32 0x00, pay := Vector.replicate 4 0x00
      trigEn := true, edgePend := false, go := false
      outValid := false, outKind := false, outArg := 0
      fault := false, fcause := 0, fupc := 0x00, hist := [] } ∧
  status State.reset = 0x08004000

/-- R33: the fields of STATUS. -/
def Obligations.StatusPacksTheRegisters : Prop :=
  ∀ s : State,
    (status s).getLsbD 0 = s.fault ∧ (status s).extractLsb' 1 3 = s.fcause ∧
    (status s).extractLsb' 4 8 = s.fupc ∧ (status s).getLsbD 12 = s.go ∧
    (status s).getLsbD 13 = s.edgePend ∧ (status s).getLsbD 14 = s.trigEn ∧
    (status s).getLsbD 15 = s.statOk ∧ (status s).getLsbD 16 = s.found ∧
    (status s).extractLsb' 17 2 = colorCode s.color ∧ (status s).getLsbD 19 = s.imgValid ∧
    (status s).getLsbD 20 = s.payValid ∧ (status s).getLsbD 21 = s.outValid ∧
    (status s).getLsbD 22 = s.outKind ∧ (status s).extractLsb' 23 2 = s.outArg ∧
    (status s).getLsbD 25 = s.en ∧ (status s).getLsbD 26 = dirCode s.dir ∧
    (status s).getLsbD 27 = s.clk ∧ (status s).getLsbD 28 = s.dataOut ∧
    (status s).extractLsb' 29 3 = 0

/-- R7: a configuration that breaks a condition is refused, and no other step is ever refused. -/
def Obligations.ExactlyIllFormedConfigurationsAreRefused : Prop :=
  ∀ s : State,
    (¬ ConfigConditions s.cfg → step s = .refused .illFormedConfig) ∧
    (ConfigConditions s.cfg → ∀ r : Refusal, step s ≠ .refused r)

/-- R60: no step writes the ROM, and the configuration is fixed. -/
def Obligations.NoStepWritesTheRom : Prop :=
  ∀ s t : State, step s = .next t → t.rom = s.rom ∧ t.cfg = s.cfg

/-- The ROM reads back what it is given: a law of the model's own memory (log entry 11), behind `Fetch`
(R47). -/
def Obligations.RomReadsBackItsContents : Prop :=
  ∀ (m : Memory) (a b : Nat) (w : Word16), m.wf = true → a < 256 →
    (m.write a w).read b = if b = a then w else m.read b

/-- The host's way to place a word: the very next step runs it (the model's `withFetchWord`, log
entry 10). -/
def Obligations.PlacedWordIsRunNext : Prop :=
  ∀ (s : State) (w : Nat) (i : Instr), configWf s.cfg = true → s.fault = false → s.rom.wf = true →
    decodeTableWord 16 w = some i → ¬(i = .waitGo ∧ s.go = false) →
    step (s.withFetchWord 16 w) = exec i (s.withFetchWord 16 w)

/-! ### Invariants and the cycle program -/

/-- Every step keeps the soundness of the state: the history replays to the line registers (R15, R80, R81,
R89), the clock idles high, the fault registers agree (R32, R142, R143, R146), valid buffers are what their
flags say (R28, R29), the port shows the last report (R31), a disabled trigger means a pending GO (R57), and
the ROM keeps its form. -/
def Obligations.StepKeepsTheStateSound : Prop :=
  ∀ s t : State, StateSound s → step s = .next t → StateSound t

/-- The reset state is sound; its inputs and its empty agenda are the model's choice (log entry 8). -/
def Obligations.ResetStateIsSound : Prop := StateSound State.reset

/-- R137: the cycle program never faults, whatever the chip answers, whatever PRESENT is and whenever edges
and resets come; and from 0x01 to 0x15 the trigger source stays disabled (R135). -/
def Obligations.CycleProgramNeverFaults : Prop :=
  ∀ s t : State, CycleSound s → step s = .next t → CycleSound t

/-- The reset state is at the start of the cycle program; its inputs and its empty agenda are the model's
choice (log entry 8). -/
def Obligations.ResetStartsTheCycleProgram : Prop := CycleSound State.reset

/-- (The engine steps each time because the agenda is empty: the model's choice, log entry 7.)
R133, R134, R136, R141, R183: a delivered trigger at 0x00 leads, within 18 steps in which the
environment adds no turn, back to 0x00 with the trigger armed and the buffers clear; the cycle records exactly
one report, before the trailer frame; and a cycle that ends with NotFound or ReadInvalid has written
nothing. -/
def Obligations.EveryCycleReportsOnceAndReturnsToIdle : Prop :=
  ∀ s : State, CycleSound s → configWf s.cfg = true → s.upc = 0x00 → s.go = true →
    s.resetIn = false → s.agenda = [] →
    ∃ (n : Nat) (t : State) (before : List Event) (kind : Bit) (arg : BitVec 2),
      n ≤ 18 ∧ Host.Core.run Sys2Proof.core n s = .next t ∧
      t.upc = 0x00 ∧ t.trigEn = true ∧ t.edgePend = false ∧ t.go = false ∧
      t.en = false ∧ t.dir = .output ∧
      t.img = Vector.replicate 32 0x00 ∧ t.pay = Vector.replicate 4 0x00 ∧
      t.imgValid = false ∧ t.payValid = false ∧
      t.outValid = true ∧ t.outKind = kind ∧ t.outArg = arg ∧
      t.hist = s.hist ++ before ++ [.report kind arg] ++ ([.en true, .en false, .en true]
        ++ frameEvents s.cfg .trailer ++ [.en false]) ∧
      (∀ k a, Event.report k a ∉ before) ∧
      (kind = false → t.found = true ∧ arg = colorCode t.color) ∧
      (kind = true → arg = 1 ∨ arg = 2 ∨ arg = 3) ∧
      (kind = true → arg ≠ 3 → ∀ v, Event.tx v .wr ∉ before)

/-- (The engine steps each time because the agenda is empty: the model's choice, log entry 7.)
R138, R183: the outcome, the steps and the number of events of a cycle entered with the enable
deasserted, as a function of what the chip answers: `r` to the probes, `bs` to the first read and `bs'` to
the read-back, given as listed answers (the model's choice, log entry 6). The first stage that fails
decides. -/
def Obligations.CycleOutcomeIsTheFirstFailingStage : Prop :=
  ∀ (s : State) (r : PerColor Nibble) (bs bs' rest : List Bit),
    CycleSound s → configWf s.cfg = true → s.upc = 0x00 → s.go = true → s.resetIn = false →
    s.agenda = [] → s.en = false → bs.length = 252 → bs'.length = 252 →
    s.answers = discoverAnswers s.cfg.ack r ++ bs ++ bs' ++ rest →
    (s.present = false → CycleEnds 10 s .notFound 169) ∧
    (s.present = true → (probed s.cfg.ack r probeOrder).2 = none → CycleEnds 10 s .notFound 219) ∧
    (s.present = true → ∀ col : Color, (probed s.cfg.ack r probeOrder).2 = some col →
      (verifyImage s.cfg (imageOfBits (idNibble s.cfg col) bs) col = false →
        CycleEnds 13 s .readInvalid (443 + 12 * (colorCode col).toNat)) ∧
      (verifyImage s.cfg (imageOfBits (idNibble s.cfg col) bs) col = true →
        if readbackOk s.cfg (imageOfBits (idNibble s.cfg col) bs')
            (buildPayload (imageOfBits (idNibble s.cfg col) bs)) col
        then CycleEnds 18 s (.success col) (749 + 12 * (colorCode col).toNat)
        else CycleEnds 17 s .writeVerifyFailed (749 + 12 * (colorCode col).toNat)))
end

