-- ==== Sys2Proof/Laws/Decode.lean ====
section
/-! SUPPORT. The two fields of a word, and the operand fields of each format. -/

namespace Sys2Proof

/-- The high part of an append. -/
theorem extract_high {m n : Nat} (x : BitVec m) (y : BitVec n) : (x ++ y).extractLsb' n m = x := by
  ext i hi
  simp [BitVec.getLsbD_append, BitVec.getLsbD_eq_getElem hi]

/-- The low part of an append. -/
theorem extract_low {m n : Nat} (x : BitVec m) (y : BitVec n) : (x ++ y).extractLsb' 0 n = y := by
  ext i hi
  simp [BitVec.getLsbD_append, hi]

/-- An append of the two parts of a vector. -/
theorem append_extract {m n : Nat} (x : BitVec (m + n)) :
    x.extractLsb' n m ++ x.extractLsb' 0 n = x := by
  ext i hi
  simp only [BitVec.getElem_append, BitVec.getElem_extractLsb']
  by_cases h : i < n
  · simp [h, BitVec.getLsbD_eq_getElem hi]
  · have h' : n + (i - n) = i := by omega
    simp [h, h', BitVec.getLsbD_eq_getElem hi]

/-- The opcode field of a word made of an opcode and operand bits. -/
@[simp] theorem opcodeField_wordOf (o : BitVec 5) (r : BitVec 11) : opcodeField (wordOf o r) = o :=
  extract_high o r

/-- The operand field of a word made of an opcode and operand bits. -/
@[simp] theorem operandField_wordOf (o : BitVec 5) (r : BitVec 11) :
    operandField (wordOf o r) = r := extract_low o r

/-- A word is its opcode field and its operand field. -/
theorem wordOf_fields (w : Word16) : wordOf (opcodeField w) (operandField w) = w :=
  append_extract (m := 5) (n := 11) w

/-- A profile is read back from its field. -/
@[simp] theorem profileOfField_fieldOfProfile (p : Profile) :
    profileOfField (fieldOfProfile p) = some p := by cases p <;> rfl

/-- A direction is read back from its bit. -/
@[simp] theorem dirOfBit_bitOfDir (d : Dir) : dirOfBit (bitOfDir d) = d := by cases d <;> rfl

/-- A frame is read back from its bit. -/
@[simp] theorem frameOfBit_bitOfFrame (f : FrameId) : frameOfBit (bitOfFrame f) = f := by
  cases f <;> rfl

end Sys2Proof
end

