-- ==== Sys2Proof/Laws/Memory.lean ====
section
/-! SUPPORT. The ROM: its canonical form is kept, and a written word is read back. -/

namespace Sys2Proof.Machine

/-- The canonical form above a higher bound is the canonical form above a lower one. -/
theorem wfFrom_mono {m : Memory} {lo hi : Nat} (h : lo ≤ hi) (hm : Memory.wfFrom hi m = true) :
    Memory.wfFrom lo m = true := by
  cases m with
  | nil => rfl
  | cons c rest =>
    simp only [Memory.wfFrom, Bool.and_eq_true, decide_eq_true_eq] at hm ⊢
    exact ⟨⟨⟨le_trans h hm.1.1.1, hm.1.1.2⟩, hm.1.2⟩, hm.2⟩

/-- An entry put before entries above it keeps the canonical form. -/
theorem cons_wfFrom {m : Memory} {lo a : Nat} {w : Word16} (hlo : lo ≤ a) (ha : a < 256)
    (hm : Memory.wfFrom (a + 1) m = true) : Memory.wfFrom lo (Memory.cons a w m) = true := by
  unfold Memory.cons
  split
  · exact wfFrom_mono (by omega) hm
  · next hw => simp [Memory.wfFrom, hlo, ha, hm, hw]

/-- Writing keeps the canonical form. -/
theorem write_wfFrom {m : Memory} {lo a : Nat} {w : Word16} (hlo : lo ≤ a) (ha : a < 256)
    (hm : Memory.wfFrom lo m = true) : Memory.wfFrom lo (m.write a w) = true := by
  induction m generalizing lo with
  | nil => exact cons_wfFrom hlo ha rfl
  | cons c rest ih =>
    obtain ⟨b, v⟩ := c
    simp only [Memory.wfFrom, Bool.and_eq_true, decide_eq_true_eq] at hm
    simp only [Memory.write]
    split
    · next hab => exact cons_wfFrom hlo ha (by simp [Memory.wfFrom, hm.1.1.2, hm.1.2, hm.2]; omega)
    · split
      · next hab => subst hab; exact cons_wfFrom hlo ha hm.2
      · simp [Memory.wfFrom, hm.1.1.1, hm.1.1.2, hm.1.2, ih (by omega) hm.2]

/-- `Memory.write` keeps the canonical form of the ROM. -/
theorem write_wf {m : Memory} {a : Nat} {w : Word16} (ha : a < 256) (hm : m.wf = true) :
    (m.write a w).wf = true := write_wfFrom (Nat.zero_le a) ha hm

/-- The ROM of the reset state lists nothing and is in canonical form. -/
theorem reset_rom_wf : State.reset.rom.wf = true := rfl

/-- Below the lowest listed address, the ROM reads as its default contents. -/
theorem read_below {m : Memory} {lo a : Nat} (h : a < lo) (hm : Memory.wfFrom lo m = true) :
    m.read a = romDefault a := by
  induction m generalizing lo with
  | nil => rfl
  | cons c rest ih =>
    obtain ⟨b, v⟩ := c
    simp only [Memory.wfFrom, Bool.and_eq_true, decide_eq_true_eq] at hm
    have hab : a ≠ b := by omega
    simp only [Memory.read, if_neg hab]
    exact ih (by omega) hm.2

/-- What `Memory.cons` reads as. -/
theorem read_cons {m : Memory} {a b : Nat} {w : Word16} (hm : m.read a = romDefault a) :
    (Memory.cons a w m).read b = if b = a then w else m.read b := by
  unfold Memory.cons
  split
  · next hw =>
    split
    · next hb => rw [hb, hm, hw]
    · rfl
  · rfl

end Sys2Proof.Machine
end

