-- ==== Sys2Proof/Laws/State.lean ====
section
/-! SUPPORT. What each field of the state is after each named update. -/

namespace Sys2Proof.Machine

variable (s : State)

/-! ### `advance` -/
@[simp] theorem advance_upc : (advance s).upc = s.upc + 1 := rfl
@[simp] theorem advance_clk : (advance s).clk = s.clk := rfl
@[simp] theorem advance_dataOut : (advance s).dataOut = s.dataOut := rfl
@[simp] theorem advance_dir : (advance s).dir = s.dir := rfl
@[simp] theorem advance_en : (advance s).en = s.en := rfl
@[simp] theorem advance_rxb : (advance s).rxb = s.rxb := rfl
@[simp] theorem advance_statOk : (advance s).statOk = s.statOk := rfl
@[simp] theorem advance_found : (advance s).found = s.found := rfl
@[simp] theorem advance_color : (advance s).color = s.color := rfl
@[simp] theorem advance_imgValid : (advance s).imgValid = s.imgValid := rfl
@[simp] theorem advance_payValid : (advance s).payValid = s.payValid := rfl
@[simp] theorem advance_img : (advance s).img = s.img := rfl
@[simp] theorem advance_pay : (advance s).pay = s.pay := rfl
@[simp] theorem advance_trigEn : (advance s).trigEn = s.trigEn := rfl
@[simp] theorem advance_edgePend : (advance s).edgePend = s.edgePend := rfl
@[simp] theorem advance_go : (advance s).go = s.go := rfl
@[simp] theorem advance_outValid : (advance s).outValid = s.outValid := rfl
@[simp] theorem advance_outKind : (advance s).outKind = s.outKind := rfl
@[simp] theorem advance_outArg : (advance s).outArg = s.outArg := rfl
@[simp] theorem advance_fault : (advance s).fault = s.fault := rfl
@[simp] theorem advance_fcause : (advance s).fcause = s.fcause := rfl
@[simp] theorem advance_fupc : (advance s).fupc = s.fupc := rfl
@[simp] theorem advance_hist : (advance s).hist = s.hist := rfl
@[simp] theorem advance_cfg : (advance s).cfg = s.cfg := rfl
@[simp] theorem advance_rom : (advance s).rom = s.rom := rfl
@[simp] theorem advance_present : (advance s).present = s.present := rfl
@[simp] theorem advance_resetIn : (advance s).resetIn = s.resetIn := rfl
@[simp] theorem advance_agenda : (advance s).agenda = s.agenda := rfl
@[simp] theorem advance_answers : (advance s).answers = s.answers := rfl
@[simp] theorem advance_choice : (advance s).choice = s.choice := rfl

/-! ### `jumpTo` -/
@[simp] theorem jumpTo_upc (t : BitVec 8) : (jumpTo t s).upc = t := rfl
@[simp] theorem jumpTo_clk (t : BitVec 8) : (jumpTo t s).clk = s.clk := rfl
@[simp] theorem jumpTo_dataOut (t : BitVec 8) : (jumpTo t s).dataOut = s.dataOut := rfl
@[simp] theorem jumpTo_dir (t : BitVec 8) : (jumpTo t s).dir = s.dir := rfl
@[simp] theorem jumpTo_en (t : BitVec 8) : (jumpTo t s).en = s.en := rfl
@[simp] theorem jumpTo_rxb (t : BitVec 8) : (jumpTo t s).rxb = s.rxb := rfl
@[simp] theorem jumpTo_statOk (t : BitVec 8) : (jumpTo t s).statOk = s.statOk := rfl
@[simp] theorem jumpTo_found (t : BitVec 8) : (jumpTo t s).found = s.found := rfl
@[simp] theorem jumpTo_color (t : BitVec 8) : (jumpTo t s).color = s.color := rfl
@[simp] theorem jumpTo_imgValid (t : BitVec 8) : (jumpTo t s).imgValid = s.imgValid := rfl
@[simp] theorem jumpTo_payValid (t : BitVec 8) : (jumpTo t s).payValid = s.payValid := rfl
@[simp] theorem jumpTo_img (t : BitVec 8) : (jumpTo t s).img = s.img := rfl
@[simp] theorem jumpTo_pay (t : BitVec 8) : (jumpTo t s).pay = s.pay := rfl
@[simp] theorem jumpTo_trigEn (t : BitVec 8) : (jumpTo t s).trigEn = s.trigEn := rfl
@[simp] theorem jumpTo_edgePend (t : BitVec 8) : (jumpTo t s).edgePend = s.edgePend := rfl
@[simp] theorem jumpTo_go (t : BitVec 8) : (jumpTo t s).go = s.go := rfl
@[simp] theorem jumpTo_outValid (t : BitVec 8) : (jumpTo t s).outValid = s.outValid := rfl
@[simp] theorem jumpTo_outKind (t : BitVec 8) : (jumpTo t s).outKind = s.outKind := rfl
@[simp] theorem jumpTo_outArg (t : BitVec 8) : (jumpTo t s).outArg = s.outArg := rfl
@[simp] theorem jumpTo_fault (t : BitVec 8) : (jumpTo t s).fault = s.fault := rfl
@[simp] theorem jumpTo_fcause (t : BitVec 8) : (jumpTo t s).fcause = s.fcause := rfl
@[simp] theorem jumpTo_fupc (t : BitVec 8) : (jumpTo t s).fupc = s.fupc := rfl
@[simp] theorem jumpTo_hist (t : BitVec 8) : (jumpTo t s).hist = s.hist := rfl
@[simp] theorem jumpTo_cfg (t : BitVec 8) : (jumpTo t s).cfg = s.cfg := rfl
@[simp] theorem jumpTo_rom (t : BitVec 8) : (jumpTo t s).rom = s.rom := rfl
@[simp] theorem jumpTo_present (t : BitVec 8) : (jumpTo t s).present = s.present := rfl
@[simp] theorem jumpTo_resetIn (t : BitVec 8) : (jumpTo t s).resetIn = s.resetIn := rfl
@[simp] theorem jumpTo_agenda (t : BitVec 8) : (jumpTo t s).agenda = s.agenda := rfl
@[simp] theorem jumpTo_answers (t : BitVec 8) : (jumpTo t s).answers = s.answers := rfl
@[simp] theorem jumpTo_choice (t : BitVec 8) : (jumpTo t s).choice = s.choice := rfl

/-! ### `emit` -/
@[simp] theorem emit_upc (e : Event) : (emit e s).upc = s.upc := rfl
@[simp] theorem emit_clk (e : Event) : (emit e s).clk = s.clk := rfl
@[simp] theorem emit_dataOut (e : Event) : (emit e s).dataOut = s.dataOut := rfl
@[simp] theorem emit_dir (e : Event) : (emit e s).dir = s.dir := rfl
@[simp] theorem emit_en (e : Event) : (emit e s).en = s.en := rfl
@[simp] theorem emit_rxb (e : Event) : (emit e s).rxb = s.rxb := rfl
@[simp] theorem emit_statOk (e : Event) : (emit e s).statOk = s.statOk := rfl
@[simp] theorem emit_found (e : Event) : (emit e s).found = s.found := rfl
@[simp] theorem emit_color (e : Event) : (emit e s).color = s.color := rfl
@[simp] theorem emit_imgValid (e : Event) : (emit e s).imgValid = s.imgValid := rfl
@[simp] theorem emit_payValid (e : Event) : (emit e s).payValid = s.payValid := rfl
@[simp] theorem emit_img (e : Event) : (emit e s).img = s.img := rfl
@[simp] theorem emit_pay (e : Event) : (emit e s).pay = s.pay := rfl
@[simp] theorem emit_trigEn (e : Event) : (emit e s).trigEn = s.trigEn := rfl
@[simp] theorem emit_edgePend (e : Event) : (emit e s).edgePend = s.edgePend := rfl
@[simp] theorem emit_go (e : Event) : (emit e s).go = s.go := rfl
@[simp] theorem emit_outValid (e : Event) : (emit e s).outValid = s.outValid := rfl
@[simp] theorem emit_outKind (e : Event) : (emit e s).outKind = s.outKind := rfl
@[simp] theorem emit_outArg (e : Event) : (emit e s).outArg = s.outArg := rfl
@[simp] theorem emit_fault (e : Event) : (emit e s).fault = s.fault := rfl
@[simp] theorem emit_fcause (e : Event) : (emit e s).fcause = s.fcause := rfl
@[simp] theorem emit_fupc (e : Event) : (emit e s).fupc = s.fupc := rfl
@[simp] theorem emit_hist (e : Event) : (emit e s).hist = s.hist ++ [e] := rfl
@[simp] theorem emit_cfg (e : Event) : (emit e s).cfg = s.cfg := rfl
@[simp] theorem emit_rom (e : Event) : (emit e s).rom = s.rom := rfl
@[simp] theorem emit_present (e : Event) : (emit e s).present = s.present := rfl
@[simp] theorem emit_resetIn (e : Event) : (emit e s).resetIn = s.resetIn := rfl
@[simp] theorem emit_agenda (e : Event) : (emit e s).agenda = s.agenda := rfl
@[simp] theorem emit_answers (e : Event) : (emit e s).answers = s.answers := rfl
@[simp] theorem emit_choice (e : Event) : (emit e s).choice = s.choice := rfl

/-! ### `consumeAnswer` -/
@[simp] theorem consumeAnswer_upc : (consumeAnswer s).upc = s.upc := rfl
@[simp] theorem consumeAnswer_clk : (consumeAnswer s).clk = s.clk := rfl
@[simp] theorem consumeAnswer_dataOut : (consumeAnswer s).dataOut = s.dataOut := rfl
@[simp] theorem consumeAnswer_dir : (consumeAnswer s).dir = s.dir := rfl
@[simp] theorem consumeAnswer_en : (consumeAnswer s).en = s.en := rfl
@[simp] theorem consumeAnswer_rxb : (consumeAnswer s).rxb = s.rxb := rfl
@[simp] theorem consumeAnswer_statOk : (consumeAnswer s).statOk = s.statOk := rfl
@[simp] theorem consumeAnswer_found : (consumeAnswer s).found = s.found := rfl
@[simp] theorem consumeAnswer_color : (consumeAnswer s).color = s.color := rfl
@[simp] theorem consumeAnswer_imgValid : (consumeAnswer s).imgValid = s.imgValid := rfl
@[simp] theorem consumeAnswer_payValid : (consumeAnswer s).payValid = s.payValid := rfl
@[simp] theorem consumeAnswer_img : (consumeAnswer s).img = s.img := rfl
@[simp] theorem consumeAnswer_pay : (consumeAnswer s).pay = s.pay := rfl
@[simp] theorem consumeAnswer_trigEn : (consumeAnswer s).trigEn = s.trigEn := rfl
@[simp] theorem consumeAnswer_edgePend : (consumeAnswer s).edgePend = s.edgePend := rfl
@[simp] theorem consumeAnswer_go : (consumeAnswer s).go = s.go := rfl
@[simp] theorem consumeAnswer_outValid : (consumeAnswer s).outValid = s.outValid := rfl
@[simp] theorem consumeAnswer_outKind : (consumeAnswer s).outKind = s.outKind := rfl
@[simp] theorem consumeAnswer_outArg : (consumeAnswer s).outArg = s.outArg := rfl
@[simp] theorem consumeAnswer_fault : (consumeAnswer s).fault = s.fault := rfl
@[simp] theorem consumeAnswer_fcause : (consumeAnswer s).fcause = s.fcause := rfl
@[simp] theorem consumeAnswer_fupc : (consumeAnswer s).fupc = s.fupc := rfl
@[simp] theorem consumeAnswer_hist : (consumeAnswer s).hist = s.hist := rfl
@[simp] theorem consumeAnswer_cfg : (consumeAnswer s).cfg = s.cfg := rfl
@[simp] theorem consumeAnswer_rom : (consumeAnswer s).rom = s.rom := rfl
@[simp] theorem consumeAnswer_present : (consumeAnswer s).present = s.present := rfl
@[simp] theorem consumeAnswer_resetIn : (consumeAnswer s).resetIn = s.resetIn := rfl
@[simp] theorem consumeAnswer_agenda : (consumeAnswer s).agenda = s.agenda := rfl
@[simp] theorem consumeAnswer_answers : (consumeAnswer s).answers = s.answers.tail := rfl
@[simp] theorem consumeAnswer_choice : (consumeAnswer s).choice = s.choice + 1 := rfl

/-! ### `raiseFault` -/
@[simp] theorem raiseFault_upc (x : FaultCause) : (raiseFault x s).upc = s.upc := rfl
@[simp] theorem raiseFault_clk (x : FaultCause) : (raiseFault x s).clk = s.clk := rfl
@[simp] theorem raiseFault_dataOut (x : FaultCause) : (raiseFault x s).dataOut = s.dataOut := rfl
@[simp] theorem raiseFault_dir (x : FaultCause) : (raiseFault x s).dir = s.dir := rfl
@[simp] theorem raiseFault_en (x : FaultCause) : (raiseFault x s).en = s.en := rfl
@[simp] theorem raiseFault_rxb (x : FaultCause) : (raiseFault x s).rxb = s.rxb := rfl
@[simp] theorem raiseFault_statOk (x : FaultCause) : (raiseFault x s).statOk = s.statOk := rfl
@[simp] theorem raiseFault_found (x : FaultCause) : (raiseFault x s).found = s.found := rfl
@[simp] theorem raiseFault_color (x : FaultCause) : (raiseFault x s).color = s.color := rfl
@[simp] theorem raiseFault_imgValid (x : FaultCause) : (raiseFault x s).imgValid = s.imgValid := rfl
@[simp] theorem raiseFault_payValid (x : FaultCause) : (raiseFault x s).payValid = s.payValid := rfl
@[simp] theorem raiseFault_img (x : FaultCause) : (raiseFault x s).img = s.img := rfl
@[simp] theorem raiseFault_pay (x : FaultCause) : (raiseFault x s).pay = s.pay := rfl
@[simp] theorem raiseFault_trigEn (x : FaultCause) : (raiseFault x s).trigEn = s.trigEn := rfl
@[simp] theorem raiseFault_edgePend (x : FaultCause) : (raiseFault x s).edgePend = s.edgePend := rfl
@[simp] theorem raiseFault_go (x : FaultCause) : (raiseFault x s).go = s.go := rfl
@[simp] theorem raiseFault_outValid (x : FaultCause) : (raiseFault x s).outValid = s.outValid := rfl
@[simp] theorem raiseFault_outKind (x : FaultCause) : (raiseFault x s).outKind = s.outKind := rfl
@[simp] theorem raiseFault_outArg (x : FaultCause) : (raiseFault x s).outArg = s.outArg := rfl
@[simp] theorem raiseFault_fault (x : FaultCause) : (raiseFault x s).fault = true := rfl
@[simp] theorem raiseFault_fcause (x : FaultCause) : (raiseFault x s).fcause = causeCode x := rfl
@[simp] theorem raiseFault_fupc (x : FaultCause) : (raiseFault x s).fupc = s.upc := rfl
@[simp] theorem raiseFault_hist (x : FaultCause) : (raiseFault x s).hist = s.hist := rfl
@[simp] theorem raiseFault_cfg (x : FaultCause) : (raiseFault x s).cfg = s.cfg := rfl
@[simp] theorem raiseFault_rom (x : FaultCause) : (raiseFault x s).rom = s.rom := rfl
@[simp] theorem raiseFault_present (x : FaultCause) : (raiseFault x s).present = s.present := rfl
@[simp] theorem raiseFault_resetIn (x : FaultCause) : (raiseFault x s).resetIn = s.resetIn := rfl
@[simp] theorem raiseFault_agenda (x : FaultCause) : (raiseFault x s).agenda = s.agenda := rfl
@[simp] theorem raiseFault_answers (x : FaultCause) : (raiseFault x s).answers = s.answers := rfl
@[simp] theorem raiseFault_choice (x : FaultCause) : (raiseFault x s).choice = s.choice := rfl

/-! ### `edgeStep` -/
@[simp] theorem edgeStep_upc : (edgeStep s).upc = s.upc := rfl
@[simp] theorem edgeStep_clk : (edgeStep s).clk = s.clk := rfl
@[simp] theorem edgeStep_dataOut : (edgeStep s).dataOut = s.dataOut := rfl
@[simp] theorem edgeStep_dir : (edgeStep s).dir = s.dir := rfl
@[simp] theorem edgeStep_en : (edgeStep s).en = s.en := rfl
@[simp] theorem edgeStep_rxb : (edgeStep s).rxb = s.rxb := rfl
@[simp] theorem edgeStep_statOk : (edgeStep s).statOk = s.statOk := rfl
@[simp] theorem edgeStep_found : (edgeStep s).found = s.found := rfl
@[simp] theorem edgeStep_color : (edgeStep s).color = s.color := rfl
@[simp] theorem edgeStep_imgValid : (edgeStep s).imgValid = s.imgValid := rfl
@[simp] theorem edgeStep_payValid : (edgeStep s).payValid = s.payValid := rfl
@[simp] theorem edgeStep_img : (edgeStep s).img = s.img := rfl
@[simp] theorem edgeStep_pay : (edgeStep s).pay = s.pay := rfl
@[simp] theorem edgeStep_trigEn : (edgeStep s).trigEn = s.trigEn := rfl
@[simp] theorem edgeStep_edgePend : (edgeStep s).edgePend = true := rfl
@[simp] theorem edgeStep_go : (edgeStep s).go = s.go := rfl
@[simp] theorem edgeStep_outValid : (edgeStep s).outValid = s.outValid := rfl
@[simp] theorem edgeStep_outKind : (edgeStep s).outKind = s.outKind := rfl
@[simp] theorem edgeStep_outArg : (edgeStep s).outArg = s.outArg := rfl
@[simp] theorem edgeStep_fault : (edgeStep s).fault = s.fault := rfl
@[simp] theorem edgeStep_fcause : (edgeStep s).fcause = s.fcause := rfl
@[simp] theorem edgeStep_fupc : (edgeStep s).fupc = s.fupc := rfl
@[simp] theorem edgeStep_hist : (edgeStep s).hist = s.hist := rfl
@[simp] theorem edgeStep_cfg : (edgeStep s).cfg = s.cfg := rfl
@[simp] theorem edgeStep_rom : (edgeStep s).rom = s.rom := rfl
@[simp] theorem edgeStep_present : (edgeStep s).present = s.present := rfl
@[simp] theorem edgeStep_resetIn : (edgeStep s).resetIn = s.resetIn := rfl
@[simp] theorem edgeStep_agenda : (edgeStep s).agenda = s.agenda := rfl
@[simp] theorem edgeStep_answers : (edgeStep s).answers = s.answers := rfl
@[simp] theorem edgeStep_choice : (edgeStep s).choice = s.choice := rfl

/-! ### `deliverStep` -/
@[simp] theorem deliverStep_upc : (deliverStep s).upc = s.upc := rfl
@[simp] theorem deliverStep_clk : (deliverStep s).clk = s.clk := rfl
@[simp] theorem deliverStep_dataOut : (deliverStep s).dataOut = s.dataOut := rfl
@[simp] theorem deliverStep_dir : (deliverStep s).dir = s.dir := rfl
@[simp] theorem deliverStep_en : (deliverStep s).en = s.en := rfl
@[simp] theorem deliverStep_rxb : (deliverStep s).rxb = s.rxb := rfl
@[simp] theorem deliverStep_statOk : (deliverStep s).statOk = s.statOk := rfl
@[simp] theorem deliverStep_found : (deliverStep s).found = s.found := rfl
@[simp] theorem deliverStep_color : (deliverStep s).color = s.color := rfl
@[simp] theorem deliverStep_imgValid : (deliverStep s).imgValid = s.imgValid := rfl
@[simp] theorem deliverStep_payValid : (deliverStep s).payValid = s.payValid := rfl
@[simp] theorem deliverStep_img : (deliverStep s).img = s.img := rfl
@[simp] theorem deliverStep_pay : (deliverStep s).pay = s.pay := rfl
@[simp] theorem deliverStep_trigEn : (deliverStep s).trigEn = s.trigEn := rfl
@[simp] theorem deliverStep_edgePend : (deliverStep s).edgePend = false := rfl
@[simp] theorem deliverStep_go : (deliverStep s).go = true := rfl
@[simp] theorem deliverStep_outValid : (deliverStep s).outValid = s.outValid := rfl
@[simp] theorem deliverStep_outKind : (deliverStep s).outKind = s.outKind := rfl
@[simp] theorem deliverStep_outArg : (deliverStep s).outArg = s.outArg := rfl
@[simp] theorem deliverStep_fault : (deliverStep s).fault = s.fault := rfl
@[simp] theorem deliverStep_fcause : (deliverStep s).fcause = s.fcause := rfl
@[simp] theorem deliverStep_fupc : (deliverStep s).fupc = s.fupc := rfl
@[simp] theorem deliverStep_hist : (deliverStep s).hist = s.hist := rfl
@[simp] theorem deliverStep_cfg : (deliverStep s).cfg = s.cfg := rfl
@[simp] theorem deliverStep_rom : (deliverStep s).rom = s.rom := rfl
@[simp] theorem deliverStep_present : (deliverStep s).present = s.present := rfl
@[simp] theorem deliverStep_resetIn : (deliverStep s).resetIn = s.resetIn := rfl
@[simp] theorem deliverStep_agenda : (deliverStep s).agenda = s.agenda := rfl
@[simp] theorem deliverStep_answers : (deliverStep s).answers = s.answers := rfl
@[simp] theorem deliverStep_choice : (deliverStep s).choice = s.choice := rfl

/-! ### `shiftRxb` -/
@[simp] theorem shiftRxb_upc (b : Bit) : (shiftRxb b s).upc = s.upc := rfl
@[simp] theorem shiftRxb_clk (b : Bit) : (shiftRxb b s).clk = s.clk := rfl
@[simp] theorem shiftRxb_dataOut (b : Bit) : (shiftRxb b s).dataOut = s.dataOut := rfl
@[simp] theorem shiftRxb_dir (b : Bit) : (shiftRxb b s).dir = s.dir := rfl
@[simp] theorem shiftRxb_en (b : Bit) : (shiftRxb b s).en = s.en := rfl
@[simp] theorem shiftRxb_rxb (b : Bit) : (shiftRxb b s).rxb = s.rxb.extractLsb' 0 7 ++ BitVec.ofBool b := rfl
@[simp] theorem shiftRxb_statOk (b : Bit) : (shiftRxb b s).statOk = s.statOk := rfl
@[simp] theorem shiftRxb_found (b : Bit) : (shiftRxb b s).found = s.found := rfl
@[simp] theorem shiftRxb_color (b : Bit) : (shiftRxb b s).color = s.color := rfl
@[simp] theorem shiftRxb_imgValid (b : Bit) : (shiftRxb b s).imgValid = s.imgValid := rfl
@[simp] theorem shiftRxb_payValid (b : Bit) : (shiftRxb b s).payValid = s.payValid := rfl
@[simp] theorem shiftRxb_img (b : Bit) : (shiftRxb b s).img = s.img := rfl
@[simp] theorem shiftRxb_pay (b : Bit) : (shiftRxb b s).pay = s.pay := rfl
@[simp] theorem shiftRxb_trigEn (b : Bit) : (shiftRxb b s).trigEn = s.trigEn := rfl
@[simp] theorem shiftRxb_edgePend (b : Bit) : (shiftRxb b s).edgePend = s.edgePend := rfl
@[simp] theorem shiftRxb_go (b : Bit) : (shiftRxb b s).go = s.go := rfl
@[simp] theorem shiftRxb_outValid (b : Bit) : (shiftRxb b s).outValid = s.outValid := rfl
@[simp] theorem shiftRxb_outKind (b : Bit) : (shiftRxb b s).outKind = s.outKind := rfl
@[simp] theorem shiftRxb_outArg (b : Bit) : (shiftRxb b s).outArg = s.outArg := rfl
@[simp] theorem shiftRxb_fault (b : Bit) : (shiftRxb b s).fault = s.fault := rfl
@[simp] theorem shiftRxb_fcause (b : Bit) : (shiftRxb b s).fcause = s.fcause := rfl
@[simp] theorem shiftRxb_fupc (b : Bit) : (shiftRxb b s).fupc = s.fupc := rfl
@[simp] theorem shiftRxb_hist (b : Bit) : (shiftRxb b s).hist = s.hist := rfl
@[simp] theorem shiftRxb_cfg (b : Bit) : (shiftRxb b s).cfg = s.cfg := rfl
@[simp] theorem shiftRxb_rom (b : Bit) : (shiftRxb b s).rom = s.rom := rfl
@[simp] theorem shiftRxb_present (b : Bit) : (shiftRxb b s).present = s.present := rfl
@[simp] theorem shiftRxb_resetIn (b : Bit) : (shiftRxb b s).resetIn = s.resetIn := rfl
@[simp] theorem shiftRxb_agenda (b : Bit) : (shiftRxb b s).agenda = s.agenda := rfl
@[simp] theorem shiftRxb_answers (b : Bit) : (shiftRxb b s).answers = s.answers := rfl
@[simp] theorem shiftRxb_choice (b : Bit) : (shiftRxb b s).choice = s.choice := rfl

/-! ### `setImg` -/
@[simp] theorem setImg_upc (k : Nat) (v : Byte) : (setImg k v s).upc = s.upc := rfl
@[simp] theorem setImg_clk (k : Nat) (v : Byte) : (setImg k v s).clk = s.clk := rfl
@[simp] theorem setImg_dataOut (k : Nat) (v : Byte) : (setImg k v s).dataOut = s.dataOut := rfl
@[simp] theorem setImg_dir (k : Nat) (v : Byte) : (setImg k v s).dir = s.dir := rfl
@[simp] theorem setImg_en (k : Nat) (v : Byte) : (setImg k v s).en = s.en := rfl
@[simp] theorem setImg_rxb (k : Nat) (v : Byte) : (setImg k v s).rxb = s.rxb := rfl
@[simp] theorem setImg_statOk (k : Nat) (v : Byte) : (setImg k v s).statOk = s.statOk := rfl
@[simp] theorem setImg_found (k : Nat) (v : Byte) : (setImg k v s).found = s.found := rfl
@[simp] theorem setImg_color (k : Nat) (v : Byte) : (setImg k v s).color = s.color := rfl
@[simp] theorem setImg_imgValid (k : Nat) (v : Byte) : (setImg k v s).imgValid = s.imgValid := rfl
@[simp] theorem setImg_payValid (k : Nat) (v : Byte) : (setImg k v s).payValid = s.payValid := rfl
@[simp] theorem setImg_img (k : Nat) (v : Byte) : (setImg k v s).img = s.img.setIfInBounds k v := rfl
@[simp] theorem setImg_pay (k : Nat) (v : Byte) : (setImg k v s).pay = s.pay := rfl
@[simp] theorem setImg_trigEn (k : Nat) (v : Byte) : (setImg k v s).trigEn = s.trigEn := rfl
@[simp] theorem setImg_edgePend (k : Nat) (v : Byte) : (setImg k v s).edgePend = s.edgePend := rfl
@[simp] theorem setImg_go (k : Nat) (v : Byte) : (setImg k v s).go = s.go := rfl
@[simp] theorem setImg_outValid (k : Nat) (v : Byte) : (setImg k v s).outValid = s.outValid := rfl
@[simp] theorem setImg_outKind (k : Nat) (v : Byte) : (setImg k v s).outKind = s.outKind := rfl
@[simp] theorem setImg_outArg (k : Nat) (v : Byte) : (setImg k v s).outArg = s.outArg := rfl
@[simp] theorem setImg_fault (k : Nat) (v : Byte) : (setImg k v s).fault = s.fault := rfl
@[simp] theorem setImg_fcause (k : Nat) (v : Byte) : (setImg k v s).fcause = s.fcause := rfl
@[simp] theorem setImg_fupc (k : Nat) (v : Byte) : (setImg k v s).fupc = s.fupc := rfl
@[simp] theorem setImg_hist (k : Nat) (v : Byte) : (setImg k v s).hist = s.hist := rfl
@[simp] theorem setImg_cfg (k : Nat) (v : Byte) : (setImg k v s).cfg = s.cfg := rfl
@[simp] theorem setImg_rom (k : Nat) (v : Byte) : (setImg k v s).rom = s.rom := rfl
@[simp] theorem setImg_present (k : Nat) (v : Byte) : (setImg k v s).present = s.present := rfl
@[simp] theorem setImg_resetIn (k : Nat) (v : Byte) : (setImg k v s).resetIn = s.resetIn := rfl
@[simp] theorem setImg_agenda (k : Nat) (v : Byte) : (setImg k v s).agenda = s.agenda := rfl
@[simp] theorem setImg_answers (k : Nat) (v : Byte) : (setImg k v s).answers = s.answers := rfl
@[simp] theorem setImg_choice (k : Nat) (v : Byte) : (setImg k v s).choice = s.choice := rfl

/-! ### `applyReset` -/
@[simp] theorem applyReset_toArch : (applyReset s).toArch = Arch.reset := rfl
@[simp] theorem applyReset_toEnv : (applyReset s).toEnv = s.toEnv := rfl

end Sys2Proof.Machine
end

