-- ==== Sys2Proof/Laws/Ops.lean ====
section
/-! SUPPORT. What each line procedure can do, said once: its whole effect on the state as one record
update. Later proofs cite these and unfold no procedure. -/

namespace Sys2Proof.Machine

/-- `SetEn`. -/
theorem setEn_eq (b : Bit) (s : State) :
    setEn b s = { s with en := b, hist := s.hist ++ enEvents s.en b } := by
  unfold setEn enEvents
  by_cases h : s.en = b
  · subst h; simp
  · simp [h, emit]

/-- `SetDir`. -/
theorem setDir_eq (d : Dir) (s : State) :
    setDir d s = { s with dir := d, hist := s.hist ++ dirEvents s.dir d } := by
  unfold setDir dirEvents
  by_cases h : s.dir = d
  · subst h; simp
  · simp [h, emit]

/-- `PulseArm`. -/
theorem pulseArm_eq (s : State) :
    pulseArm s = { s with en := true, hist := s.hist ++ pulseEvents s.en } := by
  unfold pulseArm pulseEvents
  rw [setEn_eq]
  cases h : s.en <;> simp [emit, enEvents]

/-- `Tx`. -/
theorem tx_eq (v : Bit) (p : Profile) (s : State) :
    tx v p s = { s with clk := true, dataOut := v, hist := s.hist ++ [.tx v p] } := rfl

/-- `Rx`: the bit is the chip's answer. -/
theorem rx_fst (p : Profile) (s : State) : (rx p s).1 = chipAnswer s := rfl

/-- `Rx`: the state after it. -/
theorem rx_snd (p : Profile) (s : State) :
    (rx p s).2 = { s with
      clk := true, answers := s.answers.tail, choice := s.choice + 1,
      hist := s.hist ++ [.rx (chipAnswer s) p] } := rfl

/-- `SendBits` of at least one bit. -/
theorem sendBits_succ_eq {w : Nat} (x : BitVec w) (n : Nat) (p : Profile) (s : State) :
    sendBits x (n + 1) p s = { s with
      clk := true, dataOut := x.getLsbD 0, hist := s.hist ++ txEvents x (n + 1) p } := by
  induction n generalizing s with
  | zero => simp [sendBits, tx_eq, txEvents, msbBits]
  | succ m ih =>
    rw [sendBits, ih]
    simp [tx_eq, txEvents, msbBits]

/-- `SendBits` of at least one byte: the last bit sent stays on the line. -/
theorem sendBytes_append_eq (xs : List Byte) (y : Byte) (p : Profile) (s : State) :
    sendBytes (xs ++ [y]) p s = { s with
      clk := true, dataOut := y.getLsbD 0,
      hist := s.hist ++ (xs ++ [y]).flatMap (fun x => txEvents x 8 p) } := by
  induction xs generalizing s with
  | nil => simp [sendBytes, sendBits_succ_eq]
  | cons x rest ih =>
    rw [List.cons_append, sendBytes, ih]
    simp [sendBits_succ_eq]

/-- `Settle`. -/
theorem settle_eq (s : State) : settle s = { s with hist := s.hist ++ [.settle] } := rfl

/-- The bytes of a write, each with its settle: the last bit sent stays on the line. -/
theorem writeBytes_append_eq (xs : List Byte) (y : Byte) (s : State) :
    writeBytes (xs ++ [y]) s = { s with
      clk := true, dataOut := y.getLsbD 0,
      hist := s.hist ++ (xs ++ [y]).flatMap (fun x => txEvents x 8 .wr ++ [.settle]) } := by
  induction xs generalizing s with
  | nil => simp [writeBytes, sendBits_succ_eq, settle_eq]
  | cons x rest ih =>
    rw [List.cons_append, writeBytes, ih]
    simp [sendBits_succ_eq, settle_eq]

end Sys2Proof.Machine
end

