-- ==== Sys2Proof/Laws/PerInstr.lean ====
section
/-! SUPPORT. Statements made for each operation, one lemma per constructor of `Instr`. -/

/-- The word of an operation has its opcode in bits 15 to 11 and its operand bits below (30_encoding.md
R62), whether or not it is well formed. -/
def Sys2Proof.Laws.WordFields.Statement (i : Sys2Proof.Instr) : Prop :=
  Sys2Proof.opcodeField (Sys2Proof.encode i) = i.opcode ∧
    Sys2Proof.operandField (Sys2Proof.encode i) = i.operands

namespace Sys2Proof.Laws.WordFields

/-- The two fields of any encoded operation. -/
theorem fields_encode (i : Instr) : Statement i :=
  ⟨opcodeField_wordOf i.opcode i.operands, operandField_wordOf i.opcode i.operands⟩

theorem pulseArm : Statement .pulseArm := fields_encode _
theorem enOff : Statement .enOff := fields_encode _
theorem settle : Statement .settle := fields_encode _
theorem sense : Statement .sense := fields_encode _
theorem discover : Statement .discover := fields_encode _
theorem verify : Statement .verify := fields_encode _
theorem buildPayload : Statement .buildPayload := fields_encode _
theorem writePayload : Statement .writePayload := fields_encode _
theorem readbackCmp : Statement .readbackCmp := fields_encode _
theorem clearBuf : Statement .clearBuf := fields_encode _
theorem waitGo : Statement .waitGo := fields_encode _
theorem arm : Statement .arm := fields_encode _
theorem reportSuccess : Statement .reportSuccess := fields_encode _
theorem setDir (d : Dir) : Statement (.setDir d) := fields_encode _
theorem sendBit (p : Profile) (v : Bit) : Statement (.sendBit p v) := fields_encode _
theorem recvBit (p : Profile) : Statement (.recvBit p) := fields_encode _
theorem sendFrame (f : FrameId) : Statement (.sendFrame f) := fields_encode _
theorem readBlock (p : Profile) : Statement (.readBlock p) := fields_encode _
theorem reportError (a : BitVec 2) : Statement (.reportError a) := fields_encode _
theorem jmp (t : BitVec 8) : Statement (.jmp t) := fields_encode _
theorem brf (t : BitVec 8) : Statement (.brf t) := fields_encode _
theorem reserved00 (low : BitVec 11) : Statement (.reserved00 low) := fields_encode _
theorem reserved15 (low : BitVec 11) : Statement (.reserved15 low) := fields_encode _
theorem reserved16 (low : BitVec 11) : Statement (.reserved16 low) := fields_encode _
theorem reserved17 (low : BitVec 11) : Statement (.reserved17 low) := fields_encode _
theorem reserved18 (low : BitVec 11) : Statement (.reserved18 low) := fields_encode _
theorem reserved19 (low : BitVec 11) : Statement (.reserved19 low) := fields_encode _
theorem reserved1A (low : BitVec 11) : Statement (.reserved1A low) := fields_encode _
theorem reserved1B (low : BitVec 11) : Statement (.reserved1B low) := fields_encode _
theorem reserved1C (low : BitVec 11) : Statement (.reserved1C low) := fields_encode _
theorem reserved1D (low : BitVec 11) : Statement (.reserved1D low) := fields_encode _
theorem reserved1E (low : BitVec 11) : Statement (.reserved1E low) := fields_encode _
theorem reserved1F (low : BitVec 11) : Statement (.reserved1F low) := fields_encode _

end Sys2Proof.Laws.WordFields
end

