-- ==== Sys2Proof/Laws/Receive.lean ====
section
/-! SUPPORT. Receiving, said once: the bits drawn from the chip, the state after them, and the values they
assemble to. -/

namespace Sys2Proof.Machine

/-- The bits the next `n` `Rx` sample, first one first. -/
def drawBits (n : Nat) (p : Profile) (s : State) : List Bit :=
  match n with
  | 0 => []
  | k + 1 => (rx p s).1 :: drawBits k p (rx p s).2

/-- The state after `n` `Rx`. -/
def rxState (n : Nat) (p : Profile) (s : State) : State :=
  match n with
  | 0 => s
  | k + 1 => rxState k p (rx p s).2

@[simp] theorem drawBits_length (n : Nat) (p : Profile) (s : State) : (drawBits n p s).length = n := by
  induction n generalizing s with
  | zero => rfl
  | succ k ih => simp [drawBits, ih]

/-- The state after at least one `Rx`. -/
theorem rxState_succ_eq (n : Nat) (p : Profile) (s : State) :
    rxState (n + 1) p s = { s with
      clk := true, answers := s.answers.drop (n + 1), choice := s.choice + (n + 1),
      hist := s.hist ++ rxEvents (drawBits (n + 1) p s) p } := by
  induction n generalizing s with
  | zero => simp [rxState, rx_snd, drawBits, rxEvents, rx_fst]
  | succ k ih =>
    rw [rxState, drawBits, ih]
    simp [rx_snd, rx_fst, rxEvents, Nat.add_comm, Nat.add_left_comm]

/-- The bits drawn depend on the listed answers, the history and the free choice alone. -/
theorem drawBits_congr {n : Nat} {p : Profile} {s t : State} (ha : s.answers = t.answers)
    (hh : s.hist = t.hist) (hc : s.choice = t.choice) : drawBits n p s = drawBits n p t := by
  induction n generalizing s t with
  | zero => rfl
  | succ k ih =>
    have hb : chipAnswer s = chipAnswer t := by unfold chipAnswer; rw [ha, hh, hc]
    rw [drawBits, drawBits, rx_fst, rx_fst, hb]
    congr 1
    apply ih <;> simp [rx_snd, ha, hh, hc, hb]

/-- Drawing in two parts. -/
theorem drawBits_add (m n : Nat) (p : Profile) (s : State) :
    drawBits (m + n) p s = drawBits m p s ++ drawBits n p (rxState m p s) := by
  induction m generalizing s with
  | zero => simp [drawBits, rxState]
  | succ k ih => rw [Nat.succ_add, drawBits, drawBits, rxState, ih]; rfl

/-- Receiving in two parts. -/
theorem rxState_add (m n : Nat) (p : Profile) (s : State) :
    rxState (m + n) p s = rxState n p (rxState m p s) := by
  induction m generalizing s with
  | zero => simp [rxState]
  | succ k ih => rw [Nat.succ_add, rxState, rxState, ih]

/-- The bits drawn are the listed answers as far as those go. -/
theorem drawBits_answeredBy (n : Nat) (p : Profile) (s : State) :
    AnsweredBy (drawBits n p s) s.answers := by
  induction n generalizing s with
  | zero => simp [AnsweredBy, drawBits]
  | succ k ih =>
    have h := ih (rx p s).2
    simp only [AnsweredBy, drawBits_length] at h ⊢
    rw [drawBits, rx_fst]
    cases hs : s.answers with
    | nil => simp
    | cons b rest =>
      have hr : (rx p s).2.answers = rest := by simp [rx_snd, hs]
      rw [hr] at h
      simp [chipAnswer, hs, h]

/-- Enough listed answers are the bits drawn. -/
theorem drawBits_of_answers {n : Nat} {p : Profile} {s : State} {bs rest : List Bit}
    (hs : s.answers = bs ++ rest) (hn : bs.length = n) : drawBits n p s = bs := by
  have h := drawBits_answeredBy n p s
  unfold AnsweredBy at h
  rw [hs, drawBits_length, List.take_of_length_le (by simp [← hn]),
    List.take_append_of_le_length (by omega), List.take_of_length_le (by omega)] at h
  exact h

/-- One received bit shifts in at the low end. -/
theorem shift_in (w a : Nat) (b : Bit) :
    (BitVec.ofNat w a <<< 1) ||| (BitVec.ofBool b).setWidth w = BitVec.ofNat w (2 * a + b.toNat) := by
  apply BitVec.eq_of_getLsbD_eq
  intro i hi
  have h2 : (2 * a + b.toNat) / 2 = a := by cases b <;> (simp; try omega)
  rw [BitVec.getLsbD_or, BitVec.getLsbD_shiftLeft, BitVec.getLsbD_setWidth, BitVec.getLsbD_ofBool,
    BitVec.getLsbD_ofNat, BitVec.getLsbD_ofNat]
  cases i with
  | zero => cases b <;> simp [Nat.testBit_zero, hi]
  | succ j =>
    have hj : j < w := by omega
    simp [Nat.testBit_succ, h2, hi, hj]

/-- The value of the bits drawn, shifted in one after the other. -/
theorem foldl_shift_in (w : Nat) (bs : List Bit) (a : Nat) :
    bs.foldl (fun (x : BitVec w) b => (x <<< 1) ||| (BitVec.ofBool b).setWidth w) (BitVec.ofNat w a)
      = BitVec.ofNat w (bs.foldl (fun v b => 2 * v + b.toNat) a) := by
  induction bs generalizing a with
  | nil => rfl
  | cons b rest ih => rw [List.foldl_cons, List.foldl_cons, shift_in, ih]

/-- The loop of `RecvBits`. -/
theorem recvLoop_eq {w : Nat} (n : Nat) (v : BitVec w) (p : Profile) (s : State) :
    recvLoop n v p s =
      ((drawBits n p s).foldl (fun (x : BitVec w) b => (x <<< 1) ||| (BitVec.ofBool b).setWidth w) v,
        rxState n p s) := by
  induction n generalizing v s with
  | zero => rfl
  | succ k ih => rw [recvLoop]; simp only [ih, drawBits, rxState, List.foldl_cons]

/-- `RecvBits(n, p)`: the value of the bits drawn, and the state after them. -/
theorem recvBits_eq (n : Nat) (p : Profile) (s : State) :
    recvBits n p s = (bitsValue n (drawBits n p s), rxState n p s) := by
  rw [recvBits, recvLoop_eq, bitsValue, ← foldl_shift_in]
  rfl

/-- The image after `n` received bytes from offset `k` on. -/
def fillImage (img : Vector Byte 32) (k : Nat) (bs : List Bit) : Nat → Vector Byte 32
  | 0 => img
  | n + 1 => fillImage (img.setIfInBounds k (bitsValue 8 (bs.take 8))) (k + 1) (bs.drop 8) n

/-- Receiving neither reads nor writes the image. -/
theorem rxState_setImg (n k : Nat) (v : Byte) (p : Profile) (s : State) :
    rxState n p (setImg k v s) = setImg k v (rxState n p s) := by
  induction n generalizing s with
  | zero => rfl
  | succ m ih => exact ih (rx p s).2

/-- Receiving leaves the image. -/
theorem rxState_img (n : Nat) (p : Profile) (s : State) : (rxState n p s).img = s.img := by
  cases n with
  | zero => rfl
  | succ m => rw [rxState_succ_eq]

/-- `n` times `IMG[k] <- RecvBits(8, p)`. -/
theorem recvImage_eq (n k : Nat) (p : Profile) (s : State) :
    recvImage n k p s =
      { rxState (8 * n) p s with img := fillImage s.img k (drawBits (8 * n) p s) n } := by
  induction n generalizing k s with
  | zero => rfl
  | succ m ih =>
    have hd : drawBits (8 * m) p (setImg k (bitsValue 8 (drawBits 8 p s)) (rxState 8 p s)) =
        drawBits (8 * m) p (rxState 8 p s) := drawBits_congr rfl rfl rfl
    rw [recvImage, recvBits_eq]
    simp only [ih, hd, rxState_setImg, setImg_img, rxState_img]
    rw [show 8 * (m + 1) = 8 + 8 * m by omega, drawBits_add, rxState_add, fillImage,
      List.take_append_of_le_length (by simp), List.take_of_length_le (by simp),
      List.drop_append_of_le_length (by simp), List.drop_of_length_le (by simp), List.nil_append]
    rfl

end Sys2Proof.Machine
end

