-- ==== Sys2Proof/Tests/Slice0.lean ====
section
/-! SUPPORT. The model's own tests. Expected values come from 30_encoding.md R63 and R71 (the words) and from
spec/95_test_vectors.md (the `V-` numbers); each `witness_` theorem meets the hypotheses of one statement. -/

namespace Sys2Proof.Tests

open Sys2Proof Sys2Proof.Machine

/-! ### Well-formedness -/

theorem test_wf_refuses_error_code_zero : (Instr.reportError 0).wf = false := by decide
theorem test_wf_accepts_error_codes :
    (Instr.reportError 1).wf = true ∧ (Instr.reportError 3).wf = true := by decide

/-- R7 (a): two read addresses equal. -/
theorem test_config_refuses_equal_read_addresses : configWf { defaultConfig with
    readAddr := { a := 0x27, b := 0x27, c := 0xE7, d := 0x67 } } = false := by decide
/-- R7 (b): two write addresses equal. -/
theorem test_config_refuses_equal_write_addresses : configWf { defaultConfig with
    writeAddr := { a := 0x3F, b := 0xBF, c := 0xFF, d := 0x3F } } = false := by decide
/-- R7 (c): a read address that is a write address. -/
theorem test_config_refuses_shared_addresses : configWf { defaultConfig with
    readAddr := { a := 0x3F, b := 0xA7, c := 0xE7, d := 0x67 } } = false := by decide
/-- R7 (d): distinct read addresses with one top nibble. -/
theorem test_config_refuses_equal_read_nibbles : configWf { defaultConfig with
    readAddr := { a := 0x27, b := 0x28, c := 0xE7, d := 0x67 } } = false := by decide
/-- R7 (e): distinct write addresses with one top nibble. -/
theorem test_config_refuses_equal_write_nibbles : configWf { defaultConfig with
    writeAddr := { a := 0x3F, b := 0x3E, c := 0xFF, d := 0x7F } } = false := by decide
/-- R7 (f): a read and a write address with one top nibble. -/
theorem test_config_refuses_shared_nibbles : configWf { defaultConfig with
    readAddr := { a := 0x37, b := 0xA7, c := 0xE7, d := 0x67 } } = false := by decide
/-- 95_test_vectors.md S4. -/
theorem test_config_default_wf : configWf defaultConfig = true := by decide
theorem test_step_refuses_ill_formed : step { State.reset with cfg := { defaultConfig with
    readAddr := { a := 0x27, b := 0x27, c := 0xE7, d := 0x67 } } } = .refused .illFormedConfig := rfl

/-! ### Decoding: each operation's word written out from its format (R63) and opcode (R71) -/

theorem test_decode_pulseArm : decode 0b00001_00000000000 = .ok .pulseArm := rfl
theorem test_decode_enOff : decode 0b00010_00000000000 = .ok .enOff := rfl
theorem test_decode_setDir : decode 0b00011_0000000000_0 = .ok (.setDir .output) ∧
    decode 0b00011_0000000000_1 = .ok (.setDir .input) := ⟨rfl, rfl⟩
theorem test_decode_sendBit : decode 0b00100_00000000_00_1 = .ok (.sendBit .dr true) ∧
    decode 0b00100_00000000_10_0 = .ok (.sendBit .wr false) := ⟨rfl, rfl⟩
theorem test_decode_recvBit : decode 0b00101_00000000_01_0 = .ok (.recvBit .fast) := rfl
theorem test_decode_settle : decode 0b00110_00000000000 = .ok .settle := rfl
theorem test_decode_sense : decode 0b00111_00000000000 = .ok .sense := rfl
theorem test_decode_discover : decode 0b01000_00000000000 = .ok .discover := rfl
theorem test_decode_sendFrame : decode 0b01001_0000000000_0 = .ok (.sendFrame .header) ∧
    decode 0b01001_0000000000_1 = .ok (.sendFrame .trailer) := ⟨rfl, rfl⟩
theorem test_decode_readBlock : decode 0b01010_00000000_01_0 = .ok (.readBlock .fast) := rfl
theorem test_decode_verify : decode 0b01011_00000000000 = .ok .verify := rfl
theorem test_decode_buildPayload : decode 0b01100_00000000000 = .ok .buildPayload := rfl
theorem test_decode_writePayload : decode 0b01101_00000000000 = .ok .writePayload := rfl
theorem test_decode_readbackCmp : decode 0b01110_00000000000 = .ok .readbackCmp := rfl
theorem test_decode_clearBuf : decode 0b01111_00000000000 = .ok .clearBuf := rfl
theorem test_decode_waitGo : decode 0b10000_00000000000 = .ok .waitGo := rfl
theorem test_decode_arm : decode 0b10001_00000000000 = .ok .arm := rfl
theorem test_decode_reportSuccess : decode 0b10010_0_00000000_00 = .ok .reportSuccess := rfl
theorem test_decode_reportError : decode 0b10010_1_00000000_10 = .ok (.reportError 2) := rfl
theorem test_decode_jmp : decode 0b10011_000_10110001 = .ok (.jmp 0xB1) := rfl
theorem test_decode_brf : decode 0b10100_000_00001110 = .ok (.brf 0x0E) := rfl
theorem test_decode_reserved00 : decode 0b00000_10000000001 = .ok (.reserved00 0x401) := rfl
theorem test_decode_reserved15 : decode 0b10101_00000000000 = .ok (.reserved15 0) := rfl
theorem test_decode_reserved16 : decode 0b10110_00000000001 = .ok (.reserved16 1) := rfl
theorem test_decode_reserved17 : decode 0b10111_00000000010 = .ok (.reserved17 2) := rfl
theorem test_decode_reserved18 : decode 0b11000_00000000011 = .ok (.reserved18 3) := rfl
theorem test_decode_reserved19 : decode 0b11001_00000000100 = .ok (.reserved19 4) := rfl
theorem test_decode_reserved1A : decode 0b11010_00000000101 = .ok (.reserved1A 5) := rfl
theorem test_decode_reserved1B : decode 0b11011_00000000110 = .ok (.reserved1B 6) := rfl
theorem test_decode_reserved1C : decode 0b11100_00000000111 = .ok (.reserved1C 7) := rfl
theorem test_decode_reserved1D : decode 0b11101_00000001000 = .ok (.reserved1D 8) := rfl
theorem test_decode_reserved1E : decode 0b11110_00000001001 = .ok (.reserved1E 9) := rfl
theorem test_decode_reserved1F : decode 0b11111_11111111111 = .ok (.reserved1F 0x7FF) := rfl

/-- V-E3, V-E5, V-E8, V-E10, V-E17, V-E19: a must-be-zero bit is set. -/
theorem test_decode_rejects_mbz :
    decode 0x0801 = .error .mustBeZero ∧ decode 0x1802 = .error .mustBeZero ∧
    decode 0x2801 = .error .mustBeZero ∧ decode 0x4802 = .error .mustBeZero ∧
    decode 0x9404 = .error .mustBeZero ∧ decode 0x9C00 = .error .mustBeZero :=
  ⟨rfl, rfl, rfl, rfl, rfl, rfl⟩
/-- V-E7, V-E12. -/
theorem test_decode_rejects_profile :
    decode 0x2006 = .error .reservedProfile ∧ decode 0x5006 = .error .reservedProfile := ⟨rfl, rfl⟩
/-- V-E14, V-E15. -/
theorem test_decode_rejects_report :
    decode 0x9001 = .error .illegalReport ∧ decode 0x9400 = .error .illegalReport := ⟨rfl, rfl⟩
/-- V-E1, V-E21, V-E22, V-E20: the legal words are not the decodable ones. -/
theorem test_legal_words : isLegalWord 0x0000 = false ∧ isLegalWord 0xA800 = false ∧
    isLegalWord 0xFFFF = false ∧ isLegalWord 0xA0FF = true := ⟨rfl, rfl, rfl, rfl⟩
theorem test_decodeTableWord : decodeTableWord 16 0x9812 = some (.jmp 0x12) ∧
    decodeTableWord 16 0x9400 = none := ⟨rfl, rfl⟩

/-! ### Single steps -/

/-- Whether the operation answers a next state of which `f` holds. -/
def after (i : Instr) (s : State) (f : State → Bool) : Bool :=
  match exec i s with
  | .next t => f t
  | .fault _ | .refused _ => false

/-- The bits of a list of bytes, most significant first. -/
def bitsOf (xs : List Byte) : List Bit := xs.flatMap (fun x => msbBits x 8)

/-- The image `IMG_A` of 95_test_vectors.md section 2. -/
def imageA : Vector Byte 32 :=
  #v[0x2C, 0x01, 0x01, 0x64, 0x5A, 0, 0, 0, 0, 0, 0, 0, 0x27, 0x03, 0, 0,
     0, 0, 0, 0, 0, 0, 0, 0, 0, 0, 0, 0, 0, 0x65, 0x67, 0x66]

/-- What a chip of color A with that image answers to a READ_BLOCK. -/
def streamA : List Bit := [true, true, false, false] ++ bitsOf (imageA.toList.drop 1)

/-- The reset state with a chip of color A discovered and its image read. -/
def readA : State := { State.reset with found := true, img := imageA }

/-- V-I1. -/
theorem test_pulseArm_records_three : after .pulseArm State.reset (fun t =>
    t.en && (t.upc == 1) && (t.hist == [.en true, .en false, .en true])) = true := by decide
/-- V-I2. -/
theorem test_pulseArm_when_enabled : after .pulseArm { State.reset with en := true } (fun t =>
    t.en && (t.hist == [.en false, .en true])) = true := by decide
/-- V-I3. -/
theorem test_enOff_records_the_change : after .enOff { State.reset with en := true } (fun t =>
    !t.en && (t.hist == [.en false])) = true := by decide
/-- V-I4. -/
theorem test_enOff_records_no_change : after .enOff State.reset (fun t => t.hist == []) = true := by
  decide
/-- V-I5. -/
theorem test_setDir_in : after (.setDir .input) State.reset (fun t =>
    (t.dir == .input) && (t.hist == [.dir .input])) = true := by decide
/-- V-I7. -/
theorem test_sendBit_transmits : after (.sendBit .dr true) State.reset (fun t =>
    t.dataOut && t.clk && (t.hist == [.tx true .dr])) = true := by decide
/-- V-I8. -/
theorem test_sendBit_direction_error : after (.sendBit .dr true)
    { State.reset with dir := .input } (fun t =>
    t.fault && (t.fcause == 2) && (t.upc == 0) && (t.hist == [])) = true := by decide
/-- V-I11. -/
theorem test_recvBit_shifts : after (.recvBit .fast)
    { State.reset with dir := .input, rxb := 0xFF, answers := [false] } (fun t =>
    (t.rxb == 0xFE) && (t.hist == [.rx false .fast])) = true := by decide
/-- V-I12. -/
theorem test_recvBit_direction_error : after (.recvBit .dr) State.reset (fun t =>
    t.fault && (t.fcause == 2)) = true := by decide
/-- V-I13. -/
theorem test_settle : after .settle State.reset (fun t => t.hist == [.settle]) = true := by decide
/-- V-I15. -/
theorem test_sense : after .sense { State.reset with present := true } (fun t =>
    t.statOk && (t.hist == [])) = true := by decide
/-- V-D3: the second color acknowledges. -/
theorem test_discover_b : after .discover { State.reset with
    present := true
    answers := [true, true, true, true, true, true, false, false] } (fun t =>
    t.found && (t.color == .b) && t.en && !t.dataOut && (t.hist.length == 25)) = true := by
  decide +kernel
/-- V-D5: nobody acknowledges. -/
theorem test_discover_silent : after .discover { State.reset with
    present := true, answers := List.replicate 16 false, color := .c } (fun t =>
    !t.found && !t.statOk && !t.en && (t.color == .c) && (t.hist.length == 50)) = true := by
  decide +kernel
/-- V-F2: the third byte of the trailer frame is 0x01. -/
theorem test_sendFrame_trailer : after (.sendFrame .trailer) State.reset (fun t =>
    (t.hist.length == 84) && !t.en && !t.dataOut &&
    ((t.hist.drop 19).take 8 == txEvents (0x01 : Byte) 8 .dr)) = true := by decide +kernel
/-- V-F4: the direction is restored at the start. -/
theorem test_sendFrame_from_input : after (.sendFrame .header) { State.reset with dir := .input }
    (fun t => (t.hist.length == 85) && (t.dir == .output)) = true := by decide +kernel
/-- V-B12. -/
theorem test_readBlock_fast : after (.readBlock .fast)
    { State.reset with found := true, answers := streamA } (fun t =>
    (t.img == imageA) && !t.imgValid && (t.hist.length == 262) &&
    ((t.hist.drop 3).take 4 == txEvents (0x2 : Nibble) 4 .dr)) = true := by decide +kernel
/-- V-B1. -/
theorem test_readBlock_no_chip : after (.readBlock .dr) State.reset (fun t =>
    t.fault && (t.fcause == 3) && (t.hist == [])) = true := by decide
/-- V-B3. -/
theorem test_verify_accepts : after .verify readA (fun t => t.statOk && t.imgValid) = true := by
  decide +kernel
/-- V-B6. -/
theorem test_verify_rejects_trailer : after .verify { readA with img := imageA.set 31 0x00 }
    (fun t => !t.statOk && !t.imgValid) = true := by decide +kernel
/-- V-W2. -/
theorem test_buildPayload : after .buildPayload { readA with imgValid := true } (fun t =>
    (t.pay == #v[0x01, 0x01, 0x00, 0x5A]) && t.payValid) = true := by decide +kernel
/-- V-W1. -/
theorem test_buildPayload_no_image : after .buildPayload State.reset (fun t =>
    status t == 0x08004009) = true := by decide
/-- V-W6. -/
theorem test_writePayload : after .writePayload
    { readA with pay := #v[0x01, 0x01, 0x00, 0x5A], payValid := true } (fun t =>
    (t.hist.length == 44) && ((t.hist.drop 3).take 4 == txEvents (0x3 : Nibble) 4 .wr) &&
    (t.hist.getLast? == some (.en false))) = true := by decide +kernel
/-- V-W4, V-W5: the check order. -/
theorem test_writePayload_check_order :
    after .writePayload State.reset (fun t => t.fcause == 3) = true ∧
    after .writePayload { State.reset with found := true } (fun t => t.fcause == 5) = true := by
  decide
/-- V-W11: offset 20 is not compared. -/
theorem test_readbackCmp_passes : after .readbackCmp { readA with
    img := (imageA.set 3 0x00).set 20 0x99, pay := #v[0x01, 0x01, 0x00, 0x5A], payValid := true }
    (fun t => t.statOk) = true := by decide +kernel
/-- V-W9: a stale image. -/
theorem test_readbackCmp_stale : after .readbackCmp { readA with
    pay := #v[0x01, 0x01, 0x00, 0x5A], payValid := true, statOk := true }
    (fun t => !t.statOk) = true := by decide +kernel
/-- V-S2. -/
theorem test_waitGo_passes : after .waitGo { State.reset with go := true } (fun t =>
    !t.trigEn && t.go && (t.upc == 1)) = true := by decide
/-- V-S1. -/
theorem test_waitGo_holds : step State.reset = .next State.reset := rfl
/-- V-S3. -/
theorem test_arm : after .arm { State.reset with edgePend := true, go := true, trigEn := false }
    (fun t => !t.edgePend && !t.go && t.trigEn) = true := by decide
/-- V-S5. -/
theorem test_reportSuccess : after .reportSuccess { State.reset with found := true, color := .c }
    (fun t => t.outValid && !t.outKind && (t.outArg == 2) && (t.hist == [.report false 2]) &&
      (portOutcome t == some (.success .c))) = true := by decide
/-- V-S6. -/
theorem test_reportError : after (.reportError 1) State.reset (fun t =>
    t.outValid && t.outKind && (t.outArg == 1) && (t.hist == [.report true 1])) = true := by decide
/-- V-S7. -/
theorem test_clearBuf : after .clearBuf { readA with imgValid := true, payValid := true } (fun t =>
    t.found && !t.imgValid && !t.payValid && (t.img == Vector.replicate 32 0)) = true := by
  decide +kernel
/-- V-S8. -/
theorem test_jmp : after (.jmp 0x00) { State.reset with upc := 0x16 } (fun t => t.upc == 0) = true := by
  decide
/-- V-S9, V-S10. -/
theorem test_brf :
    after (.brf 0x0E) { State.reset with upc := 0x03 } (fun t => t.upc == 0x0E) = true ∧
    after (.brf 0x0E) { State.reset with upc := 0x03, statOk := true }
      (fun t => t.upc == 0x04) = true := by decide
/-- V-S11: `upc` wraps. -/
theorem test_upc_wraps : after .settle { State.reset with upc := 0xFF } (fun t => t.upc == 0) = true := by
  decide
/-- V-E22: a word of a reserved opcode. -/
theorem test_reserved_faults : after (.reserved1F 0x7FF) State.reset (fun t =>
    t.fault && (t.fcause == 1) && (t.fupc == 0)) = true := by decide
/-- V-T8: beyond the program every word is 0x0000. -/
theorem test_step_illegal_word : step { State.reset with upc := 0x20 } = .next { State.reset with
    upc := 0x20, fault := true, fcause := 1, fupc := 0x20 } := rfl
/-- V-T2. -/
theorem test_edge_then_deliver : deliverTurn (edgeStep State.reset) =
    { State.reset with go := true } := rfl
/-- V-R1. -/
theorem test_reset_status : (State.reset.hist, State.reset.upc, State.reset.trigEn) =
    ([], 0, true) := rfl
/-- V-T7: nothing is left to step until an edge comes. -/
theorem test_faulted_engine_is_stuck : step { State.reset with fault := true } =
    .fault .engineHalted := rfl
/-- The ROM at reset is the cycle program (R131), and 0x0000 after it (R50). -/
theorem test_rom_default : fetchAt State.reset 0x13 = 0x4801 ∧ fetchAt State.reset 0x16 = 0x9800 ∧
    fetchAt State.reset 0x17 = 0x0000 ∧ fetchAt State.reset 0xFF = 0x0000 := ⟨rfl, rfl, rfl, rfl⟩
/-- `withFetchWord`: the word placed is the word run. -/
theorem test_withFetchWord_runs : step (State.reset.withFetchWord 16 0x3000) =
    exec .settle (State.reset.withFetchWord 16 0x3000) := rfl
/-- R132: `upc = 0x02` before the DISCOVER step and in it, and 0x03 by STAT_OK. -/
theorem test_source_states :
    sourceState { State.reset with upc := 0x02 } = some .headerSent ∧
    sourceStateInStep { State.reset with upc := 0x02 } = some .discovering ∧
    sourceState { State.reset with upc := 0x03 } = some .notFound ∧
    sourceStateInStep { State.reset with upc := 0x05 } = some .reading := ⟨rfl, rfl, rfl, rfl⟩
/-- R77: a line of the assembler, and one it refuses (R79). -/
theorem test_assemble :
    (assemble "x: BRF x ; loop".toList == .ok [(0, 0xA000)]) = true ∧
    (assemble "REPORT error, 0".toList == .error (1, .badOperand)) = true := by decide +kernel
/-- R79: the 256th word is the last one, though `.org` puts the next at an address below 256. -/
theorem test_program_length :
    (layout 1 0 255 [".org 0".toList, "SETTLE".toList] ==
      .ok ([{ line := 2, addr := 0, item := .op .settle }], [])) = true ∧
    (layout 1 0 256 [".org 0".toList, "SETTLE".toList] == .error (2, .tooLong)) = true := by
  decide +kernel

/-! ### The hypotheses of the statements can be met -/

theorem witness_directions : State.reset.dir = .output ∧
    ({ State.reset with dir := .input } : State).dir = .input := ⟨rfl, rfl⟩
/-- WireIsMostSignificantBitFirst, at the widths 4 and 0. -/
theorem witness_wire :
    ({ State.reset with answers := [true, true, false, false, true] } : State).answers =
      msbBits (0xC : Nibble) 4 ++ [true] ∧
    State.reset.answers = msbBits (0 : BitVec 0) 0 ++ [] := ⟨rfl, rfl⟩
/-- ProfileChangesOnlyTheTimingTags, at exactly 1 and 252 answers. -/
theorem witness_profile :
    1 ≤ ({ State.reset with answers := [true] } : State).answers.length ∧
    252 ≤ ({ State.reset with answers := List.replicate 252 false } : State).answers.length := by
  decide +kernel
theorem witness_present : State.reset.present = false ∧
    ({ State.reset with present := true } : State).present = true := ⟨rfl, rfl⟩
/-- DiscoverEventCounts, for each of its three counts. -/
theorem witness_discover_counts :
    (∃ t, exec .discover State.reset = .next t) ∧
    (∃ t, exec .discover { State.reset with present := true, answers := List.replicate 16 true } =
      .next t ∧ State.reset.en = false ∧ State.reset.dir = .output) := ⟨⟨_, rfl⟩, ⟨_, rfl, rfl, rfl⟩⟩
/-- SendFrameEventCounts. -/
theorem witness_frame_counts : State.reset.dir = .output ∧ State.reset.cfg = defaultConfig ∧
    State.reset.en = false ∧ ({ State.reset with en := true } : State).dir = .output :=
  ⟨rfl, rfl, rfl, rfl⟩
/-- The operations that need a chip, an image or a payload: each premise and its negation. -/
theorem witness_stage_premises :
    readA.found = true ∧ readA.payValid = false ∧ readA.imgValid = false ∧ readA.dir = .output ∧
    ({ readA with payValid := true } : State).found = true ∧
    ({ readA with payValid := true } : State).payValid = true ∧
    ({ readA with imgValid := true } : State).imgValid = true ∧
    State.reset.found = false := ⟨rfl, rfl, rfl, rfl, rfl, rfl, rfl, rfl⟩
/-- VerifiedImageBoundary, at the first and last offset of each range. -/
theorem witness_verified_image : verifyImage defaultConfig imageA .a = true ∧
    (0xFF : Byte) ≠ imageA[0] ∧ (0xFF : Byte) ≠ imageA[1] ∧ (0xFF : Byte) ≠ imageA[11] ∧
    (0xFF : Byte) ≠ imageA[12] ∧ (0xFF : Byte) ≠ imageA[13] ∧ (0xFF : Byte) ≠ imageA[14] ∧
    (0xFF : Byte) ≠ imageA[28] ∧ (0xFF : Byte) ≠ imageA[29] ∧ (0xFF : Byte) ≠ imageA[31] := by
  decide +kernel
/-- ReadbackPassesExactlyWhenThePayloadWasStored. -/
theorem witness_readback : ∃ (s : State) (m : Vector Byte 31) (rest : List Bit),
    s.found = true ∧ s.payValid = true ∧
    s.answers = msbBits s.cfg.ack 4 ++ m.toList.flatMap (fun x => msbBits x 8) ++ rest ∧
    m[11] = (s.cfg.expectedId.get s.color).1 ∧ m[12] = (s.cfg.expectedId.get s.color).2 ∧
    m[28] = s.cfg.trailerSig[0] ∧ m[29] = s.cfg.trailerSig[1] ∧ m[30] = s.cfg.trailerSig[2] :=
  ⟨{ readA with
      payValid := true
      answers := msbBits (0xC : Nibble) 4 ++
        (Vector.ofFn (fun k : Fin 31 => imageA[k.val + 1])).toList.flatMap (fun x => msbBits x 8) },
    Vector.ofFn (fun k : Fin 31 => imageA[k.val + 1]), [],
    rfl, rfl, by simp [State.reset, Env.initial, readA, defaultConfig], by decide +kernel,
    by decide +kernel, by decide +kernel, by decide +kernel, by decide +kernel⟩
theorem witness_waitGo : ({ State.reset with go := true } : State).go = true := rfl
theorem witness_brf : State.reset.statOk = false ∧
    ({ State.reset with statOk := true } : State).statOk = true := ⟨rfl, rfl⟩
/-- ReservedOpcodesRaiseIllegalOp, at the opcodes 0x00, 0x15 and 0x1F. -/
theorem witness_reserved_opcodes :
    ((0x07FF : Word16).extractLsb' 11 5).toNat = 0x00 ∧
    ((0xA800 : Word16).extractLsb' 11 5).toNat = 0x15 ∧
    ((0xFFFF : Word16).extractLsb' 11 5).toNat = 0x1F ∧
    (Instr.reserved00 0x7FF).isReserved = true ∧ (Instr.reserved1F 0).isReserved = true := by decide
/-- OperationsRaiseExactlyTheirFaults: each cause, and none. -/
theorem witness_faultOf :
    faultOf (.reserved15 0) State.reset = some .illegalOp ∧
    faultOf (.recvBit .dr) State.reset = some .directionError ∧
    faultOf .writePayload State.reset = some .noChip ∧
    faultOf .buildPayload State.reset = some .noValidImage ∧
    faultOf .readbackCmp readA = some .noPayload ∧
    faultOf .verify readA = none ∧ faultOf .discover State.reset = none :=
  ⟨rfl, rfl, rfl, rfl, rfl, rfl, rfl⟩
/-- UpcAdvancesExceptOnBranches and the statements about writers: operations that answer a next state. -/
theorem witness_next_states :
    (∃ t, exec .settle State.reset = .next t) ∧ (∃ t, exec (.jmp 0xFF) State.reset = .next t) ∧
    (∃ t, exec (.brf 0x0E) State.reset = .next t) ∧ (∃ t, exec .waitGo State.reset = .next t) ∧
    (∃ t, exec (.recvBit .wr) State.reset = .next t) ∧ (∃ t, exec .arm State.reset = .next t) ∧
    (∃ t, exec .reportSuccess readA = .next t) ∧
    faultOf (.jmp 0xFF) State.reset = none ∧ faultOf (.brf 0x0E) State.reset = none ∧
    faultOf .waitGo State.reset = none ∧ faultOf .settle State.reset = none ∧
    faultOf (.recvBit .wr) State.reset ≠ none := by
  refine ⟨⟨_, rfl⟩, ⟨_, rfl⟩, ⟨_, rfl⟩, ⟨_, rfl⟩, ⟨_, rfl⟩, ⟨_, rfl⟩, ⟨_, rfl⟩, ?_⟩
  decide
/-- DecodeOfEncodeIsTheOperation and EncodeOfDecodeIsTheWord. -/
theorem witness_encoding : (Instr.brf 0xFF).wf = true ∧
    decode 0x9403 = .ok (.reportError 3) := ⟨rfl, rfl⟩
/-- StepRunsTheDecodedOperation, with an empty agenda and with a scheduled engine turn; and an operation
that passes WAIT_GO. -/
theorem witness_step_runs :
    configWf State.reset.cfg = true ∧ State.reset.resetIn = false ∧ State.reset.fault = false ∧
    decode (State.reset.rom.read (0x15 : BitVec 8).toNat) = .ok .arm ∧
    decode (State.reset.rom.read State.reset.upc.toNat) = .ok .waitGo ∧
    ¬(Instr.waitGo = .waitGo ∧ ({ State.reset with go := true } : State).go = false) ∧
    State.reset.agenda = [] ∧
    ({ State.reset with agenda := [.engine] } : State).agenda = .engine :: [] :=
  ⟨rfl, rfl, rfl, rfl, rfl, by simp, rfl, rfl⟩
/-- IllegalWordRaisesIllegalOp, at the first and last address past the program. -/
theorem witness_illegal_word :
    isLegalWord (State.reset.rom.read (0x17 : BitVec 8).toNat) = false ∧
    isLegalWord (State.reset.rom.read (0xFF : BitVec 8).toNat) = false := ⟨rfl, rfl⟩
/-- HoldingEngineWaits and TriggerUnitLatchesAndDelivers: each clause. -/
theorem witness_trigger :
    State.reset.go = false ∧ State.reset.trigEn = true ∧
    ({ State.reset with edgePend := true } : State).edgePend = true ∧
    ({ State.reset with edgePend := true } : State).trigEn = true ∧
    (State.reset.trigEn && State.reset.edgePend) = false ∧
    ({ State.reset with agenda := [.deliver] } : State).agenda = .deliver :: [] ∧
    ({ State.reset with agenda := [.edge] } : State).agenda = .edge :: [] :=
  ⟨rfl, rfl, rfl, rfl, rfl, rfl, rfl⟩
/-- A machine that has faulted. -/
def halted : State := { State.reset with fault := true, fcause := 1 }
/-- FaultedEngineTakesNoStep: a turn of each kind but a change of RESET, and the empty agenda with a delivery
enabled and without one. -/
theorem witness_faulted_engine :
    configWf halted.cfg = true ∧ halted.resetIn = false ∧ halted.fault = true ∧ halted.agenda = [] ∧
    (∀ x : Turn, x ∈ ([.engine, .edge, .deliver, .setPresent true, .setPresent false] : List Turn) →
      ({ halted with agenda := [x] } : State).agenda = x :: [] ∧ ∀ b, x ≠ .setReset b) ∧
    ({ halted with edgePend := true } : State).trigEn = true ∧
    ({ halted with edgePend := true } : State).edgePend = true ∧
    (halted.trigEn && halted.edgePend) = false := by
  refine ⟨rfl, rfl, rfl, rfl, ?_, rfl, rfl, rfl⟩
  simp
/-- PresentFollowsItsPin, with RESET asserted and not. -/
theorem witness_present_pin :
    configWf ({ State.reset with agenda := [.setPresent true] } : State).cfg = true ∧
    ({ State.reset with agenda := [.setPresent true] } : State).agenda = .setPresent true :: [] ∧
    ({ State.reset with agenda := [.setPresent false], present := true, resetIn := true } : State).agenda =
      .setPresent false :: [] := ⟨rfl, rfl, rfl⟩
/-- ArmDecidesTheRearmWindow. -/
theorem witness_arm : ∃ t, exec .arm { State.reset with edgePend := true } = .next t := ⟨_, rfl⟩
/-- ResetTakesPrecedence: each clause. -/
theorem witness_reset :
    configWf State.reset.cfg = true ∧
    ({ State.reset with agenda := [.setReset true] } : State).agenda = .setReset true :: [] ∧
    ({ State.reset with agenda := [.setReset false] } : State).agenda = .setReset false :: [] ∧
    (∀ x : Turn, x = .engine ∨ x = .edge ∨ x = .deliver →
      ({ State.reset with agenda := [x], resetIn := true } : State).resetIn = true ∧
      ({ State.reset with agenda := [x], resetIn := true } : State).agenda = x :: []) ∧
    ({ State.reset with resetIn := true } : State).agenda = [] ∧
    ({ State.reset with agenda := [.setPresent true], resetIn := true } : State).agenda =
      .setPresent true :: [] := ⟨rfl, rfl, rfl, fun _ _ => ⟨rfl, rfl⟩, rfl, rfl⟩
/-- StateTupleIsAtResetUnderReset: a step with RESET asserted that stays there, and one that asserts it on a
state that is not at reset. -/
theorem witness_under_reset :
    (∃ s t : State, s.resetIn = true ∧ s.toArch = Arch.reset ∧ step s = .next t ∧ t.resetIn = true) ∧
    (∃ s t : State, s.resetIn = false ∧ s.upc = 0x14 ∧ step s = .next t ∧ t.resetIn = true) :=
  ⟨⟨{ State.reset with resetIn := true, agenda := [.edge] }, _, rfl, rfl, rfl, rfl⟩,
    ⟨{ State.reset with upc := 0x14, agenda := [.setReset true] }, _, rfl, rfl, rfl, rfl⟩⟩
/-- ExactlyIllFormedConfigurationsAreRefused: a configuration that breaks a condition. -/
theorem witness_ill_formed : ∃ g : Config, ¬ ConfigConditions g :=
  ⟨{ defaultConfig with readAddr := { a := 0x27, b := 0x27, c := 0xE7, d := 0x67 } },
    fun h => absurd (h.readInjective .a .b rfl) (by decide)⟩
/-- ExactlyIllFormedConfigurationsAreRefused: one that meets them all. -/
theorem witness_well_formed : ∃ g : Config, ConfigConditions g :=
  ⟨defaultConfig,
    ⟨by intro x y; cases x <;> cases y <;> decide, by intro x y; cases x <;> cases y <;> decide,
      by intro x y; cases x <;> cases y <;> decide, by intro x y; cases x <;> cases y <;> decide,
      by intro x y; cases x <;> cases y <;> decide, by intro x y; cases x <;> cases y <;> decide⟩⟩
/-- NoStepWritesTheRom. -/
theorem witness_step_next : ∃ s t : State, step s = .next t ∧ s.upc = 0x14 :=
  ⟨{ State.reset with upc := 0x14 }, _, rfl, rfl⟩
/-- RomReadsBackItsContents: a ROM in canonical form, the addresses 0 and 255. -/
theorem witness_rom : Memory.wf [(0x05, 0x0800), (0xFF, 0x8000)] = true ∧ 0 < 256 ∧ 255 < 256 ∧
    Memory.read [(0x05, 0x0800), (0xFF, 0x8000)] 0x05 = 0x0800 := by decide
/-- PlacedWordIsRunNext. -/
theorem witness_placed : configWf State.reset.cfg = true ∧ State.reset.fault = false ∧
    State.reset.rom.wf = true ∧ decodeTableWord 16 0x8800 = some .arm := ⟨rfl, rfl, rfl, rfl⟩

/-- A sound state in the middle of a run: enabled lines, a pulse in the history. -/
def armed : State :=
  { State.reset with
    upc := 0x14, en := true, hist := [.en true, .en false, .en true], trigEn := false, go := true }

/-- StepKeepsTheStateSound. -/
theorem witness_sound : StateSound armed ∧ ∃ t, step armed = .next t :=
  ⟨⟨rfl, rfl, ⟨fun _ => ⟨rfl, rfl⟩, nofun⟩, ⟨nofun, nofun⟩,
    ⟨rfl, fun _ => ⟨rfl, rfl⟩, nofun⟩, fun _ => rfl, rfl⟩, ⟨_, rfl⟩⟩
/-- CycleProgramNeverFaults, at an address where the trigger is disabled. -/
theorem witness_cycle : CycleSound armed ∧ ∃ t, step armed = .next t :=
  ⟨⟨rfl, rfl, by unfold CyclePoint; decide⟩, ⟨_, rfl⟩⟩
/-- EveryCycleReportsOnceAndReturnsToIdle. -/
theorem witness_triggered : ∃ s : State, CycleSound s ∧ configWf s.cfg = true ∧ s.upc = 0x00 ∧
    s.go = true ∧ s.resetIn = false ∧ s.agenda = [] :=
  ⟨{ State.reset with go := true }, ⟨rfl, rfl, by unfold CyclePoint; decide⟩, rfl, rfl, rfl, rfl, rfl⟩

/-- The responses of a chip of color A: ACK to the first probe. -/
def ackA : PerColor Nibble := { a := 0xC, b := 0, c := 0, d := 0 }

/-- What the chip of color A answers in a cycle: to the probe, the first read and a read-back `x`. -/
def cycleStart (x : List Bit) : State :=
  { State.reset with
    go := true, present := true, answers := discoverAnswers 0xC ackA ++ streamA ++ x ++ [] }

/-- CycleOutcomeIsTheFirstFailingStage: a triggered state with no chip, and one with a chip of color A; an
image that is verified and one that is not; no answer that is ACK. -/
theorem witness_cycle_outcome :
    (∃ s : State, CycleSound s ∧ configWf s.cfg = true ∧ s.upc = 0x00 ∧ s.go = true ∧
      s.resetIn = false ∧ s.agenda = [] ∧ s.en = false ∧ s.present = false ∧
      s.answers = discoverAnswers s.cfg.ack ackA ++ streamA ++ streamA ++ []) ∧
    (∃ s : State, CycleSound s ∧ configWf s.cfg = true ∧ s.upc = 0x00 ∧ s.go = true ∧
      s.resetIn = false ∧ s.agenda = [] ∧ s.en = false ∧ s.present = true ∧
      s.answers = discoverAnswers s.cfg.ack ackA ++ streamA ++ streamA ++ []) ∧
    streamA.length = 252 ∧ (probed 0xC ackA probeOrder).2 = some .a ∧
    verifyImage defaultConfig (imageOfBits 0x2 streamA) .a = true ∧
    readbackOk defaultConfig (imageOfBits 0x2 streamA)
      (buildPayload (imageOfBits 0x2 streamA)) .a = false ∧
    readbackOk defaultConfig (imageOfBits 0x2 ([true, true, false, false] ++
        bitsOf ((imageA.set 3 0x00).toList.drop 1)))
      (buildPayload (imageOfBits 0x2 streamA)) .a = true ∧
    verifyImage defaultConfig (imageOfBits 0x2 (List.replicate 252 true)) .a = false ∧
    (probed 0xC { a := 0, b := 0xD, c := 0xE, d := 0xF } probeOrder).2 = none := by
  refine ⟨⟨{ cycleStart streamA with present := false }, ⟨rfl, rfl, by unfold CyclePoint; decide⟩, rfl,
    rfl, rfl, rfl, rfl, rfl, rfl, rfl⟩, ?_⟩
  refine ⟨⟨cycleStart streamA, ⟨rfl, rfl, by unfold CyclePoint; decide⟩, rfl, rfl, rfl, rfl, rfl, rfl,
    rfl, rfl⟩, ?_⟩
  decide +kernel
/-- The family of Laws/PerInstr.lean speaks of every constructor, a reserved one among them. -/
theorem witness_word_fields : Laws.WordFields.Statement (.reserved1F 0x7FF) :=
  Laws.WordFields.reserved1F 0x7FF

end Sys2Proof.Tests
end

namespace Sys2Proof.Machine

/-! ### What an operation answers, and what it appends to the history (00_scope.md R15, 20_memory.md R56) -/

/-- The outcome is a next state, and `P` holds of it. -/
def AnswersNext (P : State → Prop) (o : Host.Outcome State Fault Refusal) : Prop :=
  ∃ t, o = .next t ∧ P t

namespace AnswersNext

theorem next {P : State → Prop} {t : State} (h : P t) : AnswersNext P (.next t) := ⟨t, rfl, h⟩

/-- Both branches of a check answer a next state. -/
theorem ite {P : State → Prop} {c : Prop} [Decidable c] {x y : Host.Outcome State Fault Refusal}
    (hx : AnswersNext P x) (hy : AnswersNext P y) : AnswersNext P (if c then x else y) := by
  split
  · exact hx
  · exact hy

theorem mono {P Q : State → Prop} {o : Host.Outcome State Fault Refusal} (h : AnswersNext P o)
    (hPQ : ∀ t, P t → Q t) : AnswersNext Q o := by
  obtain ⟨t, ho, ht⟩ := h
  exact ⟨t, ho, hPQ t ht⟩

/-- The next state is the only one, so `P` holds of whichever next state is answered. -/
theorem of_eq_next {P : State → Prop} {o : Host.Outcome State Fault Refusal} {t : State}
    (h : AnswersNext P o) (ho : o = .next t) : P t := by
  obtain ⟨u, hu, hP⟩ := h
  cases hu.symm.trans ho
  exact hP

theorem ne_refused {P : State → Prop} {o : Host.Outcome State Fault Refusal}
    (h : AnswersNext P o) (r : Refusal) : o ≠ .refused r := by
  obtain ⟨t, rfl, -⟩ := h
  nofun

end AnswersNext

/-- One round of DISCOVER's loop (R99, R101). -/
theorem probeLoop_cons (col : Color) (rest : List Color) (s : State) :
    probeLoop (col :: rest) s =
      if (probe col s).1 then
        { (probe col s).2 with color := col, found := true, statOk := true }
      else probeLoop rest (probe col s).2 := by
  rw [probeLoop]

/-- The history of `t` is that of `s` with further events, none of them a `Report`. -/
def AppendsNoReport (s t : State) : Prop :=
  ∃ ev : List Event, t.hist = s.hist ++ ev ∧ ∀ k a, Event.report k a ∉ ev

namespace AppendsNoReport

variable {s t u : State}

theorem refl (s : State) : AppendsNoReport s s := ⟨[], by simp, by simp⟩

/-- Further events that are no `Report` may follow. -/
theorem append (h : AppendsNoReport s t) (ev : List Event) (hu : u.hist = t.hist ++ ev)
    (hev : ∀ k a, Event.report k a ∉ ev) : AppendsNoReport s u := by
  obtain ⟨ev₀, ht, hev₀⟩ := h
  exact ⟨ev₀ ++ ev, by rw [hu, ht, List.append_assoc],
    fun k a => List.not_mem_append (hev₀ k a) (hev k a)⟩

theorem of_hist_eq (h : AppendsNoReport s t) (hu : u.hist = t.hist) : AppendsNoReport s u :=
  h.append [] (by simp [hu]) (by simp)

theorem then_advance (h : AppendsNoReport s t) : AppendsNoReport s (advance t) :=
  h.of_hist_eq rfl

/-! The line procedures. -/

theorem then_setEn (h : AppendsNoReport s t) (b : Bit) : AppendsNoReport s (setEn b t) :=
  h.append (enEvents t.en b) (by rw [setEn_eq]) (by unfold enEvents; split <;> simp)

theorem then_setDir (h : AppendsNoReport s t) (d : Dir) : AppendsNoReport s (setDir d t) :=
  h.append (dirEvents t.dir d) (by rw [setDir_eq]) (by unfold dirEvents; split <;> simp)

theorem then_pulseArm (h : AppendsNoReport s t) : AppendsNoReport s (pulseArm t) :=
  h.append (pulseEvents t.en) (by rw [pulseArm_eq]) (by unfold pulseEvents; split <;> simp)

theorem then_tx (h : AppendsNoReport s t) (v : Bit) (p : Profile) : AppendsNoReport s (tx v p t) :=
  h.append [.tx v p] (by rw [tx_eq]) (by simp)

theorem then_rx (h : AppendsNoReport s t) (p : Profile) : AppendsNoReport s (rx p t).2 :=
  h.append [.rx (chipAnswer t) p] (by rw [rx_snd]) (by simp)

theorem then_settle (h : AppendsNoReport s t) : AppendsNoReport s (settle t) :=
  h.append [.settle] (by rw [settle_eq]) (by simp)

theorem then_sendBits {w : Nat} (x : BitVec w) (n : Nat) (p : Profile) (h : AppendsNoReport s t) :
    AppendsNoReport s (sendBits x n p t) := by
  induction n generalizing t with
  | zero => exact h
  | succ i ih => exact ih (h.then_tx (x.getLsbD i) p)

theorem then_sendBytes (xs : List Byte) (p : Profile) (h : AppendsNoReport s t) :
    AppendsNoReport s (sendBytes xs p t) := by
  induction xs generalizing t with
  | nil => exact h
  | cons x rest ih => exact ih (h.then_sendBits x 8 p)

theorem then_writeBytes (xs : List Byte) (h : AppendsNoReport s t) :
    AppendsNoReport s (writeBytes xs t) := by
  induction xs generalizing t with
  | nil => exact h
  | cons x rest ih => exact ih (h.then_sendBits x 8 .wr).then_settle

theorem then_rxState (n : Nat) (p : Profile) (h : AppendsNoReport s t) :
    AppendsNoReport s (rxState n p t) := by
  induction n generalizing t with
  | zero => exact h
  | succ k ih => exact ih (h.then_rx p)

theorem then_recvBits (n : Nat) (p : Profile) (h : AppendsNoReport s t) :
    AppendsNoReport s (recvBits n p t).2 := by
  rw [recvBits_eq]
  exact h.then_rxState n p

theorem then_setImg (h : AppendsNoReport s t) (k : Nat) (v : Byte) :
    AppendsNoReport s (setImg k v t) := h.of_hist_eq (setImg_hist t k v)

theorem then_recvImage (n k : Nat) (p : Profile) (h : AppendsNoReport s t) :
    AppendsNoReport s (recvImage n k p t) := by
  rw [recvImage_eq]
  exact (h.then_rxState (8 * n) p).of_hist_eq rfl

/-! The bodies of the stage operations. -/

theorem then_sendFrame (f : FrameId) (h : AppendsNoReport s t) :
    AppendsNoReport s (sendFrame f t) :=
  ((h.then_pulseArm.then_setDir .output).then_sendBytes _ .dr).then_setEn false

theorem then_writePayload (h : AppendsNoReport s t) : AppendsNoReport s (writePayload t) :=
  (((h.then_pulseArm.then_setDir .output).then_sendBits _ 4 .wr).then_writeBytes _).then_setEn false

theorem then_readBlock (col : Color) (p : Profile) (h : AppendsNoReport s t) :
    AppendsNoReport s (readBlock col p t) := by
  have hstart : AppendsNoReport s { t with imgValid := false } := h.of_hist_eq rfl
  have hpulsed := hstart.then_pulseArm.then_setDir .output
  simp only [readBlock, recvBits_eq]
  have hfirst (x : Nibble) := ((hpulsed.then_sendBits x 4 .dr).then_setDir .input).then_rxState 4 p
  exact ((((hfirst _).then_setImg 0 _).then_recvImage 31 1 p).then_setEn false).then_setDir .output

theorem then_probe (col : Color) (h : AppendsNoReport s t) : AppendsNoReport s (probe col t).2 :=
  ((((h.then_pulseArm.then_setDir .output).then_sendBits _ 4 .dr).then_setDir .input).then_recvBits
    4 .dr).then_setDir .output

theorem then_probeLoop (cs : List Color) (h : AppendsNoReport s t) :
    AppendsNoReport s (probeLoop cs t) := by
  induction cs generalizing t with
  | nil => exact (h.then_setDir .output).then_setEn false
  | cons col rest ih =>
    have hp := h.then_probe col
    rw [probeLoop_cons]
    split
    · exact hp.of_hist_eq rfl
    · exact ih hp

theorem then_discover (h : AppendsNoReport s t) : AppendsNoReport s (discover t) := by
  have hstart : AppendsNoReport s (discoverStart t) := h.of_hist_eq rfl
  unfold discover
  split
  · exact hstart.then_probeLoop probeOrder
  · exact (hstart.then_setDir .output).then_setEn false

end AppendsNoReport

/-- Taking a fault appends nothing. -/
theorem raiseFault_appendsNoReport (c : FaultCause) (s : State) :
    AnswersNext (AppendsNoReport s) (.next (raiseFault c s)) :=
  .next ((AppendsNoReport.refl s).of_hist_eq rfl)

/-- R15: every operation but REPORT answers a next state and appends no `Report`. -/
theorem exec_appendsNoReport {i : Instr} (s : State) (hs : i ≠ .reportSuccess)
    (he : ∀ a, i ≠ .reportError a) : AnswersNext (AppendsNoReport s) (exec i s) := by
  have start := AppendsNoReport.refl s
  have keeps {t : State} (ht : t.hist = s.hist) : AnswersNext (AppendsNoReport s) (.next t) :=
    .next (start.of_hist_eq ht)
  have faults := fun c => raiseFault_appendsNoReport c s
  cases i with
  | pulseArm => exact .next start.then_pulseArm.then_advance
  | enOff => exact .next (start.then_setEn false).then_advance
  | setDir d => exact .next (start.then_setDir d).then_advance
  | sendBit p v => exact .ite (faults _) (.next (start.then_tx v p).then_advance)
  | recvBit p => exact .ite (faults _) (.next ((start.then_rx p).of_hist_eq rfl))
  | settle => exact .next start.then_settle.then_advance
  | discover => exact .next start.then_discover.then_advance
  | sendFrame f => exact .next (start.then_sendFrame f).then_advance
  | readBlock p => exact .ite (.next (start.then_readBlock s.color p).then_advance) (faults _)
  | writePayload =>
    exact .ite (faults _) (.ite (faults _) (.next start.then_writePayload.then_advance))
  | readbackCmp => exact .ite (faults _) (.ite (faults _) (keeps rfl))
  | verify | buildPayload => exact .ite (keeps rfl) (faults _)
  | waitGo | brf _ => exact .ite (keeps rfl) (keeps rfl)
  | sense | clearBuf | arm | jmp _ => exact keeps rfl
  | reportSuccess => exact absurd rfl hs
  | reportError a => exact absurd rfl (he a)
  | reserved00 _ | reserved15 _ | reserved16 _ | reserved17 _ | reserved18 _ | reserved19 _
  | reserved1A _ | reserved1B _ | reserved1C _ | reserved1D _ | reserved1E _ | reserved1F _ =>
    exact faults .illegalOp

/-- R31, R127: REPORT appends the one `Report` it posts. -/
theorem exec_reportError_hist (a : BitVec 2) (s : State) :
    AnswersNext (fun t => t.hist = s.hist ++ [.report true a]) (exec (.reportError a) s) :=
  .next rfl

/-- R31, R127: REPORT of a success appends the one `Report` it posts, or nothing where it faults. -/
theorem exec_reportSuccess_hist (s : State) :
    AnswersNext (fun t => ∃ ev, t.hist = s.hist ++ ev) (exec .reportSuccess s) :=
  .ite (.next ⟨[.report false (colorCode s.color)], rfl⟩)
    (.next ⟨[], (List.append_nil s.hist).symm⟩)

/-- What an operation may do to the history: append events, a `Report` only if it is a REPORT. -/
def OnlyReportAppendsReport (i : Instr) (s t : State) : Prop :=
  ∃ ev : List Event, t.hist = s.hist ++ ev ∧
    (i ≠ .reportSuccess → (∀ a, i ≠ .reportError a) → ∀ k a, Event.report k a ∉ ev)

/-- Every operation answers a next state, and only appends to the history. -/
theorem exec_answersNext (i : Instr) (s : State) :
    AnswersNext (OnlyReportAppendsReport i s) (exec i s) := by
  by_cases hr : i = .reportSuccess ∨ ∃ a, i = .reportError a
  · obtain rfl | ⟨a, rfl⟩ := hr
    · exact (exec_reportSuccess_hist s).mono fun t ⟨ev, ht⟩ => ⟨ev, ht, fun hs => absurd rfl hs⟩
    · exact (exec_reportError_hist a s).mono fun t ht => ⟨_, ht, fun _ he => absurd rfl (he a)⟩
  · obtain ⟨hs, he⟩ := not_or.mp hr
    exact (exec_appendsNoReport s hs (not_exists.mp he)).mono
      fun t ⟨ev, ht, hev⟩ => ⟨ev, ht, fun _ _ => hev⟩

/-- Settles O33: every operation is a composition of line procedures, each of which only appends. -/
theorem operationsOnlyAppendToTheHistory : Obligations.OperationsOnlyAppendToTheHistory :=
  fun i s _ h => (exec_answersNext i s).of_eq_next h

/-! ### The configuration check says what R7 says -/

theorem allDistinct_iff_nodup {α : Type} [DecidableEq α] (xs : List α) :
    allDistinct xs = true ↔ xs.Nodup := by
  induction xs with
  | nil => simp [allDistinct]
  | cons x xs ih => simp [allDistinct, ih]

theorem noneShared_iff {α : Type} [DecidableEq α] (xs ys : List α) :
    noneShared xs ys = true ↔ ∀ x ∈ xs, ∀ y ∈ ys, x ≠ y := by
  simp only [noneShared, List.all_eq_true, Bool.not_eq_true', List.contains_eq_mem,
    decide_eq_false_iff_not]
  exact forall₂_congr fun x _ => ⟨fun h y hy hxy => h (hxy ▸ hy), fun h hx => h x hx rfl⟩

/-- `probeOrder` lists every color. -/
theorem mem_probeOrder (col : Color) : col ∈ probeOrder := by
  cases col <;> decide

/-- The values of a per-color table are those of its colors, in the order of `probeOrder`. -/
theorem map_perColorValues {α β : Type} (f : α → β) (t : PerColor α) :
    (perColorValues t).map f = probeOrder.map (fun col => f (t.get col)) := rfl

/-- The values of a per-color table under `f` are distinct exactly when `f` of it is injective over the
colors: what (a), (b), (d) and (e) of R7 each say. -/
theorem allDistinct_map_perColorValues {α β : Type} [DecidableEq β] (f : α → β) (t : PerColor α) :
    allDistinct ((perColorValues t).map f) = true ↔
      ∀ x y, f (t.get x) = f (t.get y) → x = y := by
  rw [allDistinct_iff_nodup, map_perColorValues, List.nodup_map_iff_inj_on (by decide)]
  exact ⟨fun h x y => h x (mem_probeOrder x) y (mem_probeOrder y), fun h x _ y _ => h x y⟩

/-- Two per-color tables share no value under `f`: what (c) and (f) of R7 each say. -/
theorem noneShared_map_perColorValues {α β : Type} [DecidableEq β] (f : α → β) (t u : PerColor α) :
    noneShared ((perColorValues t).map f) ((perColorValues u).map f) = true ↔
      ∀ x y, f (t.get x) ≠ f (u.get y) := by
  rw [noneShared_iff, map_perColorValues, map_perColorValues]
  simp [mem_probeOrder]

/-- The check is the conjunction of the six conditions of R7. -/
theorem configWf_iff (g : Config) : configWf g = true ↔ ConfigConditions g := by
  have distinct := fun t : PerColor Byte => allDistinct_map_perColorValues id t
  have apart := fun t u : PerColor Byte => noneShared_map_perColorValues id t u
  simp only [List.map_id, id_eq] at distinct apart
  simp only [configWf, addrsInjective, nibblesInjective, Bool.and_eq_true, distinct, apart,
    allDistinct_map_perColorValues, noneShared_map_perColorValues]
  constructor
  · rintro ⟨⟨⟨⟨⟨ha, hb⟩, hc⟩, hd⟩, he⟩, hf⟩
    exact ⟨ha, hb, hc, hd, he, hf⟩
  · rintro ⟨ha, hb, hc, hd, he, hf⟩
    exact ⟨⟨⟨⟨⟨ha, hb⟩, hc⟩, hd⟩, he⟩, hf⟩

/-! ### No turn is refused -/

theorem runFetched_ne_refused (s : State) (r : Refusal) : runFetched s ≠ .refused r := by
  unfold runFetched
  split
  · exact (exec_answersNext _ s).ne_refused r
  · nofun

theorem engineTurn_ne_refused (s : State) (r : Refusal) : engineTurn s ≠ .refused r := by
  unfold engineTurn
  split
  · exact runFetched_ne_refused s r
  · nofun

theorem idleTurn_ne_refused (s : State) (r : Refusal) : idleTurn s ≠ .refused r := by
  unfold idleTurn
  split_ifs
  · nofun
  · exact runFetched_ne_refused s r
  · nofun
  · nofun
  · nofun

theorem takeTurn_ne_refused (x : Turn) (s : State) (r : Refusal) : takeTurn x s ≠ .refused r := by
  cases x with
  | engine =>
    simp only [takeTurn]
    split
    · nofun
    · exact engineTurn_ne_refused s r
  | edge | deliver =>
    simp only [takeTurn]
    split <;> nofun
  | setPresent _ | setReset _ => nofun

/-- With a configuration that R7 admits, no step is refused. -/
theorem step_ne_refused {s : State} (hwf : configWf s.cfg = true) (r : Refusal) :
    step s ≠ .refused r := by
  unfold step
  rw [if_pos hwf]
  split
  · exact idleTurn_ne_refused s r
  · exact takeTurn_ne_refused _ _ r

/-- Any other configuration is refused. -/
theorem step_of_not_configWf {s : State} (hwf : ¬ configWf s.cfg = true) :
    step s = .refused .illFormedConfig := if_neg hwf

/-- Settles O50: the check of `step` is R7's conditions, and no turn behind it refuses. -/
theorem exactlyIllFormedConfigurationsAreRefused :
    Obligations.ExactlyIllFormedConfigurationsAreRefused :=
  fun s => ⟨fun h => step_of_not_configWf (mt (configWf_iff s.cfg).mp h),
    fun h => step_ne_refused ((configWf_iff s.cfg).mpr h)⟩

end Sys2Proof.Machine

namespace Sys2Proof.Machine

/-! ### The line procedures write the lines, the history and the chip's answers alone (R23, R80 to R87) -/

/-- The state with the lines, the history and the chip's answers forgotten: what no line procedure
writes. -/
def forgetLines (s : State) : State :=
  { s with
    clk := true, dataOut := false, dir := .output, en := false, hist := [], answers := [], choice := 0 }

@[simp] theorem forgetLines_advance (s : State) :
    forgetLines (advance s) = advance (forgetLines s) := rfl

@[simp] theorem forgetLines_setEn (b : Bit) (s : State) : forgetLines (setEn b s) = forgetLines s := by
  rw [setEn_eq]
  rfl

@[simp] theorem forgetLines_setDir (d : Dir) (s : State) :
    forgetLines (setDir d s) = forgetLines s := by
  rw [setDir_eq]
  rfl

@[simp] theorem forgetLines_pulseArm (s : State) : forgetLines (pulseArm s) = forgetLines s := by
  rw [pulseArm_eq]
  rfl

@[simp] theorem forgetLines_tx (v : Bit) (p : Profile) (s : State) :
    forgetLines (tx v p s) = forgetLines s := rfl

@[simp] theorem forgetLines_rx (p : Profile) (s : State) :
    forgetLines (rx p s).2 = forgetLines s := rfl

@[simp] theorem forgetLines_settle (s : State) : forgetLines (settle s) = forgetLines s := rfl

@[simp] theorem forgetLines_sendBits {w : Nat} (x : BitVec w) (n : Nat) (p : Profile) (s : State) :
    forgetLines (sendBits x n p s) = forgetLines s := by
  induction n generalizing s with
  | zero => rfl
  | succ i ih => simp [sendBits, ih]

@[simp] theorem forgetLines_sendBytes (xs : List Byte) (p : Profile) (s : State) :
    forgetLines (sendBytes xs p s) = forgetLines s := by
  induction xs generalizing s with
  | nil => rfl
  | cons x rest ih => simp [sendBytes, ih]

@[simp] theorem forgetLines_writeBytes (xs : List Byte) (s : State) :
    forgetLines (writeBytes xs s) = forgetLines s := by
  induction xs generalizing s with
  | nil => rfl
  | cons x rest ih => simp [writeBytes, ih]

@[simp] theorem forgetLines_rxState (n : Nat) (p : Profile) (s : State) :
    forgetLines (rxState n p s) = forgetLines s := by
  induction n generalizing s with
  | zero => rfl
  | succ k ih => simp [rxState, ih]

@[simp] theorem forgetLines_recvBits (n : Nat) (p : Profile) (s : State) :
    forgetLines (recvBits n p s).2 = forgetLines s := by
  rw [recvBits_eq]
  exact forgetLines_rxState n p s

@[simp] theorem forgetLines_setImg (k : Nat) (v : Byte) (s : State) :
    forgetLines (setImg k v s) = setImg k v (forgetLines s) := rfl

/-! The bodies of the stage operations. -/

@[simp] theorem forgetLines_sendFrame (f : FrameId) (s : State) :
    forgetLines (sendFrame f s) = forgetLines s := by
  simp [sendFrame]

@[simp] theorem forgetLines_writePayload (s : State) :
    forgetLines (writePayload s) = forgetLines s := by
  simp [writePayload]

@[simp] theorem forgetLines_probe (col : Color) (s : State) :
    forgetLines (probe col s).2 = forgetLines s := by
  simp [probe]

/-! The bodies that write registers beside the lines. -/

/-- The state with the image and its valid flag forgotten. -/
def forgetImage (s : State) : State :=
  { s with img := Vector.replicate 32 0, imgValid := false }

@[simp] theorem forgetImage_setImg (k : Nat) (v : Byte) (s : State) :
    forgetImage (setImg k v s) = forgetImage s := rfl

@[simp] theorem forgetImage_recvImage (n k : Nat) (p : Profile) (s : State) :
    forgetImage (forgetLines (recvImage n k p s)) = forgetImage (forgetLines s) := by
  induction n generalizing k s with
  | zero => rfl
  | succ m ih => simp [recvImage, ih]

/-- R108: a block read writes `IMG` and `IMG_VALID` beside the lines. -/
theorem forgetImage_readBlock (col : Color) (p : Profile) (s : State) :
    forgetImage (forgetLines (readBlock col p s)) = forgetImage (forgetLines s) := by
  simp only [readBlock, forgetLines_setDir, forgetLines_setEn, forgetImage_recvImage,
    forgetLines_setImg, forgetImage_setImg, forgetLines_recvBits, forgetLines_sendBits,
    forgetLines_pulseArm]
  rfl

/-- The state with what DISCOVER writes forgotten: the chip found, `STAT_OK` and the valid flags. -/
def forgetDiscovery (s : State) : State :=
  { s with found := false, statOk := false, color := .a, imgValid := false, payValid := false }

/-- R101: taking a color writes only what DISCOVER writes. -/
theorem forgetDiscovery_take (col : Color) (s : State) :
    forgetDiscovery (forgetLines { s with color := col, found := true, statOk := true }) =
      forgetDiscovery (forgetLines s) := rfl

theorem forgetDiscovery_probeLoop (cs : List Color) (s : State) :
    forgetDiscovery (forgetLines (probeLoop cs s)) = forgetDiscovery (forgetLines s) := by
  induction cs generalizing s with
  | nil => simp [probeLoop]
  | cons col rest ih =>
    rw [probeLoop_cons]
    split
    · rw [forgetDiscovery_take, forgetLines_probe]
    · simp [ih]

/-- R99: DISCOVER writes `FOUND`, `COLOR`, `STAT_OK` and the valid flags beside the lines. -/
theorem forgetDiscovery_discover (s : State) :
    forgetDiscovery (forgetLines (discover s)) = forgetDiscovery (forgetLines s) := by
  have hstart : forgetDiscovery (forgetLines (discoverStart s)) = forgetDiscovery (forgetLines s) := rfl
  unfold discover
  split
  · rw [forgetDiscovery_probeLoop, hstart]
  · rw [forgetLines_setEn, forgetLines_setDir, hstart]

/-! ### The fault check and the completed operation (45_sequencer.md R124, 60_exceptions.md R144) -/

/-- Where an operation that raises no fault goes on to, `next` included. A reserved opcode never does. -/
def completed (i : Instr) (s : State) : State :=
  match i with
  | .pulseArm => advance (pulseArm s)
  | .enOff => advance (setEn false s)
  | .setDir d => advance (setDir d s)
  | .sendBit p v => advance (tx v p s)
  | .recvBit p => advance (shiftRxb (rx p s).1 (rx p s).2)
  | .settle => advance (settle s)
  | .sense => advance { s with statOk := s.present }
  | .discover => advance (discover s)
  | .sendFrame f => advance (sendFrame f s)
  | .readBlock p => advance (readBlock s.color p s)
  | .verify => advance { s with
      statOk := verifyImage s.cfg s.img s.color, imgValid := verifyImage s.cfg s.img s.color }
  | .buildPayload => advance { s with pay := buildPayload s.img, payValid := true }
  | .writePayload => advance (writePayload s)
  | .readbackCmp => advance { s with statOk := readbackOk s.cfg s.img s.pay s.color }
  | .clearBuf => advance { s with
      img := Vector.replicate 32 0, pay := Vector.replicate 4 0, imgValid := false, payValid := false }
  | .waitGo => if s.go then advance { s with trigEn := false } else s
  | .arm => advance { s with edgePend := false, go := false, trigEn := true }
  | .reportSuccess => advance (postOutcome false (colorCode s.color) s)
  | .reportError a => advance (postOutcome true a s)
  | .jmp a => jumpTo a s
  | .brf a => if s.statOk then advance s else jumpTo a s
  | .reserved00 _ | .reserved15 _ | .reserved16 _ | .reserved17 _ | .reserved18 _ | .reserved19 _
  | .reserved1A _ | .reserved1B _ | .reserved1C _ | .reserved1D _ | .reserved1E _
  | .reserved1F _ => s

/-- Every operation checks for the fault of R144 first: it raises that one, or it completes. -/
theorem exec_eq (i : Instr) (s : State) :
    exec i s = .next ((faultOf i s).elim (completed i s) (raiseFault · s)) := by
  cases i with
  | sendBit p v => cases h : s.dir <;> simp [exec, execSendBit, faultOf, completed, h]
  | recvBit p => cases h : s.dir <;> simp [exec, execRecvBit, faultOf, completed, h]
  | readBlock p => cases h : s.found <;> simp [exec, execReadBlock, faultOf, completed, h]
  | verify => cases h : s.found <;> simp [exec, execVerify, faultOf, completed, h]
  | reportSuccess => cases h : s.found <;> simp [exec, execReportSuccess, faultOf, completed, h]
  | buildPayload => cases h : s.imgValid <;> simp [exec, execBuildPayload, faultOf, completed, h]
  | writePayload =>
    cases hf : s.found <;> cases hp : s.payValid <;>
      simp [exec, execWritePayload, faultOf, completed, hf, hp]
  | readbackCmp =>
    cases hf : s.found <;> cases hp : s.payValid <;>
      simp [exec, execReadbackCmp, faultOf, completed, hf, hp]
  | waitGo => cases h : s.go <;> simp [exec, execWaitGo, faultOf, completed, h]
  | brf a => cases h : s.statOk <;> simp [exec, execBrf, faultOf, completed, h]
  | _ => rfl

/-- The next state an operation answers is the fault it has to raise, or its completion. -/
theorem exec_cases {i : Instr} {s t : State} (h : exec i s = .next t) :
    (∃ c, faultOf i s = some c ∧ t = raiseFault c s) ∨ (faultOf i s = none ∧ t = completed i s) := by
  rw [exec_eq] at h
  injection h with ht
  cases hf : faultOf i s with
  | some c => exact .inl ⟨c, rfl, by rw [← ht, hf]; rfl⟩
  | none => exact .inr ⟨rfl, by rw [← ht, hf]; rfl⟩

/-! ### What an operation writes, and where it goes on (10_state.md R22, R25 to R31, R34, R35) -/

/-- The state with every register the operation is a writer of forgotten, the lines among them: the writers
of R25 to R31, R34, R35 and R149. -/
def forgetWritten (i : Instr) (s : State) : State :=
  match i with
  | .recvBit _ => forgetLines { s with rxb := 0 }
  | .sense | .readbackCmp => { s with statOk := false }
  | .discover => forgetDiscovery (forgetLines s)
  | .readBlock _ => forgetImage (forgetLines s)
  | .verify => { s with statOk := false, imgValid := false }
  | .buildPayload => { s with pay := Vector.replicate 4 0, payValid := false }
  | .clearBuf => forgetImage { s with pay := Vector.replicate 4 0, payValid := false }
  | .waitGo => { s with trigEn := false }
  | .arm => { s with edgePend := false, go := false, trigEn := false }
  | .reportSuccess | .reportError _ =>
    { s with outValid := false, outKind := false, outArg := 0, hist := [] }
  | .jmp _ | .brf _ => s
  | _ => forgetLines s

/-- Where an operation that raises no fault leaves `upc` (R22). -/
def nextUpc (i : Instr) (s : State) : BitVec 8 :=
  match i with
  | .jmp a => a
  | .brf a => if s.statOk then s.upc + 1 else a
  | .waitGo => if s.go then s.upc + 1 else s.upc
  | _ => s.upc + 1

/-- From `s` the operation has gone on to `t`: beside `upc`, only registers it writes have changed. -/
def WritesOnlyItsOwn (i : Instr) (s t : State) : Prop :=
  forgetWritten i t = jumpTo (nextUpc i s) (forgetWritten i s)

theorem forgetWritten_advance (i : Instr) (s : State) :
    forgetWritten i (advance s) = advance (forgetWritten i s) := by
  cases i <;> rfl

theorem forgetWritten_upc (i : Instr) (s : State) : (forgetWritten i s).upc = s.upc := by
  cases i <;> rfl

/-- An operation whose body changes only registers it writes, before `next`. -/
theorem WritesOnlyItsOwn.of_body {i : Instr} {s u : State}
    (hbody : forgetWritten i u = forgetWritten i s) (hnext : nextUpc i s = s.upc + 1) :
    WritesOnlyItsOwn i s (advance u) := by
  rw [WritesOnlyItsOwn, forgetWritten_advance, hbody, hnext, ← forgetWritten_upc i s]
  rfl

/-- An operation that completes writes the registers it is a writer of, and goes on as R22 says. -/
theorem completed_writesOnlyItsOwn {i : Instr} {s : State} (hf : faultOf i s = none) :
    WritesOnlyItsOwn i s (completed i s) := by
  cases i with
  | pulseArm => exact .of_body (forgetLines_pulseArm s) rfl
  | enOff => exact .of_body (forgetLines_setEn false s) rfl
  | setDir d => exact .of_body (forgetLines_setDir d s) rfl
  | sendFrame f => exact .of_body (forgetLines_sendFrame f s) rfl
  | writePayload => exact .of_body (forgetLines_writePayload s) rfl
  | discover => exact .of_body (forgetDiscovery_discover s) rfl
  | readBlock p => exact .of_body (forgetImage_readBlock s.color p s) rfl
  | waitGo | brf _ =>
    simp only [WritesOnlyItsOwn, completed, nextUpc]
    split_ifs <;> rfl
  | jmp a => rfl
  | reserved00 _ | reserved15 _ | reserved16 _ | reserved17 _ | reserved18 _ | reserved19 _
  | reserved1A _ | reserved1B _ | reserved1C _ | reserved1D _ | reserved1E _ | reserved1F _ => nomatch hf
  | _ => exact .of_body rfl rfl

/-- What an operation that answers a next state can have done: raised its fault, or written the registers it
is a writer of and gone on. -/
theorem exec_writesOnlyItsOwn {i : Instr} {s t : State} (h : exec i s = .next t) :
    (∃ c, faultOf i s = some c ∧ t = raiseFault c s) ∨
      (faultOf i s = none ∧ WritesOnlyItsOwn i s t) :=
  (exec_cases h).imp_right fun ⟨hf, ht⟩ => ⟨hf, ht ▸ completed_writesOnlyItsOwn hf⟩

/-- A register that a fault and `upc` leave alone, and that `i` is not a writer of, is kept. -/
theorem exec_keeps {α : Type} {i : Instr} {s t : State} (f : State → α) (h : exec i s = .next t)
    (hi : ∀ u, f (forgetWritten i u) = f u)
    (hfault : ∀ c u, f (raiseFault c u) = f u := by intros; rfl)
    (hjump : ∀ a u, f (jumpTo a u) = f u := by intros; rfl) : f t = f s := by
  obtain ⟨c, -, rfl⟩ | ⟨-, hw⟩ := exec_writesOnlyItsOwn h
  · exact hfault c s
  · calc
      f t = f (forgetWritten i t) := (hi t).symm
      _ = f (jumpTo (nextUpc i s) (forgetWritten i s)) := congrArg f hw
      _ = f (forgetWritten i s) := hjump _ _
      _ = f s := hi s

/-! ### `upc` (R22) -/

theorem WritesOnlyItsOwn.upc_eq {i : Instr} {s t : State} (h : WritesOnlyItsOwn i s t) :
    t.upc = nextUpc i s :=
  (forgetWritten_upc i t).symm.trans (congrArg (fun u : State => u.upc) h)

theorem nextUpc_of_not_branch {i : Instr} (s : State) (hj : ∀ a, i ≠ .jmp a) (hb : ∀ a, i ≠ .brf a)
    (hw : i ≠ .waitGo) : nextUpc i s = s.upc + 1 := by
  cases i with
  | jmp a => exact absurd rfl (hj a)
  | brf a => exact absurd rfl (hb a)
  | waitGo => exact absurd rfl hw
  | _ => rfl

/-- Settles O30: an operation raises its fault, which leaves `upc`, or goes on to `nextUpc`. -/
theorem upcAdvancesExceptOnBranches : Obligations.UpcAdvancesExceptOnBranches := by
  intro i s t h
  obtain ⟨c, hc, rfl⟩ | ⟨hnone, hw⟩ := exec_writesOnlyItsOwn h
  · have hfaults : faultOf i s ≠ none := by simp [hc]
    exact ⟨fun _ => rfl, fun hn => absurd hn hfaults, fun hn => absurd hn hfaults,
      fun hn => absurd hn hfaults, fun hn => absurd hn hfaults⟩
  · rw [hw.upc_eq]
    refine ⟨fun hn => absurd hnone hn, ?_, ?_, ?_, fun _ => nextUpc_of_not_branch s⟩
    · rintro - a rfl
      rfl
    · rintro - a rfl
      rfl
    · rintro - rfl
      rfl

/-! ### The writers of each register (R25 to R31, R34, R35, R149) -/

section Writers

variable {i : Instr} {s t : State}

theorem exec_rxb (h : exec i s = .next t) (hi : ∀ p, i ≠ .recvBit p) : t.rxb = s.rxb := by
  refine exec_keeps (·.rxb) h fun u => ?_
  cases i with
  | recvBit p => exact absurd rfl (hi p)
  | _ => rfl

theorem exec_statOk (h : exec i s = .next t) (hsense : i ≠ .sense) (hdiscover : i ≠ .discover)
    (hverify : i ≠ .verify) (hcmp : i ≠ .readbackCmp) : t.statOk = s.statOk := by
  refine exec_keeps (·.statOk) h fun u => ?_
  cases i with
  | sense | discover | verify | readbackCmp => contradiction
  | _ => rfl

theorem exec_discovered (h : exec i s = .next t) (hi : i ≠ .discover) :
    t.found = s.found ∧ t.color = s.color := by
  refine Prod.mk.inj (exec_keeps (fun u => (u.found, u.color)) h fun u => ?_)
  cases i with
  | discover => contradiction
  | _ => rfl

theorem exec_trigEn (h : exec i s = .next t) (hwait : i ≠ .waitGo) (harm : i ≠ .arm) :
    t.trigEn = s.trigEn := by
  refine exec_keeps (·.trigEn) h fun u => ?_
  cases i with
  | waitGo | arm => contradiction
  | _ => rfl

theorem exec_trigger (h : exec i s = .next t) (harm : i ≠ .arm) :
    t.go = s.go ∧ t.edgePend = s.edgePend := by
  refine Prod.mk.inj (exec_keeps (fun u => (u.go, u.edgePend)) h fun u => ?_)
  cases i with
  | arm => contradiction
  | _ => rfl

theorem exec_port (h : exec i s = .next t) (hs : i ≠ .reportSuccess) (he : ∀ a, i ≠ .reportError a) :
    t.outValid = s.outValid ∧ t.outKind = s.outKind ∧ t.outArg = s.outArg := by
  have hport : (t.outValid, t.outKind, t.outArg) = (s.outValid, s.outKind, s.outArg) := by
    refine exec_keeps (fun u => (u.outValid, u.outKind, u.outArg)) h fun u => ?_
    cases i with
    | reportSuccess => contradiction
    | reportError a => exact absurd rfl (he a)
    | _ => rfl
  simpa using hport

theorem exec_img (h : exec i s = .next t) (hread : ∀ p, i ≠ .readBlock p) (hclear : i ≠ .clearBuf) :
    t.img = s.img := by
  refine exec_keeps (·.img) h fun u => ?_
  cases i with
  | readBlock p => exact absurd rfl (hread p)
  | clearBuf => contradiction
  | _ => rfl

theorem exec_pay (h : exec i s = .next t) (hbuild : i ≠ .buildPayload) (hclear : i ≠ .clearBuf) :
    t.pay = s.pay := by
  refine exec_keeps (·.pay) h fun u => ?_
  cases i with
  | buildPayload | clearBuf => contradiction
  | _ => rfl

theorem exec_imgValid (h : exec i s = .next t) (hverify : i ≠ .verify) (hread : ∀ p, i ≠ .readBlock p)
    (hclear : i ≠ .clearBuf) (hdiscover : i ≠ .discover) : t.imgValid = s.imgValid := by
  refine exec_keeps (·.imgValid) h fun u => ?_
  cases i with
  | readBlock p => exact absurd rfl (hread p)
  | verify | clearBuf | discover => contradiction
  | _ => rfl

theorem exec_payValid (h : exec i s = .next t) (hbuild : i ≠ .buildPayload) (hclear : i ≠ .clearBuf)
    (hdiscover : i ≠ .discover) : t.payValid = s.payValid := by
  refine exec_keeps (·.payValid) h fun u => ?_
  cases i with
  | buildPayload | clearBuf | discover => contradiction
  | _ => rfl

end Writers

/-- Settles O31: one lemma for each register, over the table of writers. -/
theorem registersHaveOnlyTheirWriters : Obligations.RegistersHaveOnlyTheirWriters :=
  fun _ _ _ h => ⟨exec_rxb h, exec_statOk h, exec_discovered h, exec_trigEn h, exec_trigger h,
    exec_port h⟩

/-- Settles O32: one lemma for each buffer and valid flag, over the table of writers. -/
theorem buffersHaveOnlyTheirWriters : Obligations.BuffersHaveOnlyTheirWriters :=
  fun _ _ _ h => ⟨exec_img h, exec_pay h, exec_imgValid h, exec_payValid h⟩

/-! ### The turns of the trigger unit and of the inputs (R14, R20, R24, R147, R148) -/

/-- A scheduled turn is used up and taken. -/
theorem step_of_agenda {s : State} {x : Turn} {rest : List Turn} (hwf : configWf s.cfg = true)
    (hx : s.agenda = x :: rest) : step s = takeTurn x { s with agenda := rest } := by
  rw [step, if_pos hwf, hx]

/-- R147: an edge is latched, whatever `TRIG_EN` is. -/
theorem takeTurn_edge {s : State} (hr : s.resetIn = false) :
    takeTurn .edge s = .next (edgeStep s) := by
  simp [takeTurn, hr]

/-- R148: where it is enabled, the delivery is taken. -/
theorem takeTurn_deliver {s : State} (hr : s.resetIn = false) (hen : deliverEnabled s = true) :
    takeTurn .deliver s = .next (deliverStep s) := by
  simp [takeTurn, deliverTurn, hr, hen]

/-- A delivery turn that is not enabled passes (log entry 7). -/
theorem takeTurn_deliver_passes {s : State} (hr : s.resetIn = false) (hen : deliverEnabled s = false) :
    takeTurn .deliver s = .next s := by
  simp [takeTurn, deliverTurn, hr, hen]

/-- A transition is an edge in the `TRIG_EDGE` direction alone (R20). -/
theorem turnOfTrig_eq_edge_iff (g : Config) (k : EdgeKind) :
    turnOfTrig g k = some .edge ↔ k = g.trigEdge := by
  simp [turnOfTrig]

/-- Settles O43: with RESET released the scheduled turn is the trigger unit's step. -/
theorem triggerUnitLatchesAndDelivers : Obligations.TriggerUnitLatchesAndDelivers := by
  intro s rest hwf hr
  refine ⟨turnOfTrig_eq_edge_iff s.cfg, fun hx => ?_, fun hx htrig hpend => ?_, fun hx hoff => ?_⟩
  · exact (step_of_agenda hwf hx).trans (takeTurn_edge hr)
  · have hen : deliverEnabled s = true := by simp [deliverEnabled, htrig, hpend]
    exact (step_of_agenda hwf hx).trans (takeTurn_deliver hr hen)
  · exact (step_of_agenda hwf hx).trans (takeTurn_deliver_passes hr hoff)

/-- Settles O44: a change of the pin is the turn that writes PRESENT, and that turn asks for nothing. -/
theorem presentFollowsItsPin : Obligations.PresentFollowsItsPin := by
  intro s rest hwf
  exact ⟨fun _ => rfl, fun b hx => step_of_agenda hwf hx⟩

/-- Settles O48: one fixed state, whose tuple and packed word are read off. -/
theorem resetValues : Obligations.ResetValues := ⟨rfl, by decide⟩

/-! ### The view STATUS (R33) -/

section Status

variable (s : State) {i k : Nat}

/-- The low word of STATUS, at bit 0. -/
theorem status_extract_fault (h : i + k ≤ 12) :
    (status s).extractLsb' i k = (statusFault s).extractLsb' i k := by
  rw [status, BitVec.extractLsb'_append_eq_of_add_le (by omega),
    BitVec.extractLsb'_append_eq_of_add_le (by omega), BitVec.extractLsb'_append_eq_of_add_le h]

/-- The middle word of STATUS, at bit 12. -/
theorem status_extract_flags (h : i + k ≤ 9) :
    (status s).extractLsb' (12 + i) k = (statusFlags s).extractLsb' i k := by
  rw [status, BitVec.extractLsb'_append_eq_of_add_le (by omega),
    BitVec.extractLsb'_append_eq_of_add_le (by omega), BitVec.extractLsb'_append_eq_of_le (by omega),
    Nat.add_sub_cancel_left]

/-- The high word of STATUS, at bit 21. -/
theorem status_extract_pins (h : i + k ≤ 8) :
    (status s).extractLsb' (21 + i) k = (statusPins s).extractLsb' i k := by
  rw [status, BitVec.extractLsb'_append_eq_of_add_le (by omega),
    BitVec.extractLsb'_append_eq_of_le (by omega), Nat.add_sub_cancel_left]

theorem status_fcause : (status s).extractLsb' 1 3 = s.fcause := by
  rw [status_extract_fault s (by decide), statusFault,
    BitVec.extractLsb'_append_eq_of_add_le (by decide), BitVec.extractLsb'_append_eq_left]

theorem status_fupc : (status s).extractLsb' 4 8 = s.fupc := by
  rw [status_extract_fault s (by decide), statusFault, BitVec.extractLsb'_append_eq_left]

theorem status_color : (status s).extractLsb' 17 2 = colorCode s.color := by
  rw [status_extract_flags s (i := 5) (by decide), statusFlags,
    BitVec.extractLsb'_append_eq_of_add_le (by decide),
    BitVec.extractLsb'_append_eq_of_add_le (by decide), BitVec.extractLsb'_append_eq_left]

theorem status_outArg : (status s).extractLsb' 23 2 = s.outArg := by
  rw [status_extract_pins s (i := 2) (by decide), statusPins,
    BitVec.extractLsb'_append_eq_of_add_le (by decide),
    BitVec.extractLsb'_append_eq_of_add_le (by decide),
    BitVec.extractLsb'_append_eq_of_add_le (by decide),
    BitVec.extractLsb'_append_eq_of_add_le (by decide), BitVec.extractLsb'_append_eq_left]

/-- Bits 31 to 29 read 0. -/
theorem status_reserved : (status s).extractLsb' 29 3 = 0 := by
  rw [status, BitVec.extractLsb'_append_eq_left]
  rfl

/-- The one-bit fields: each is reached by walking the appends from the low end. -/
theorem status_bits :
    (status s).getLsbD 0 = s.fault ∧ (status s).getLsbD 12 = s.go ∧
    (status s).getLsbD 13 = s.edgePend ∧ (status s).getLsbD 14 = s.trigEn ∧
    (status s).getLsbD 15 = s.statOk ∧ (status s).getLsbD 16 = s.found ∧
    (status s).getLsbD 19 = s.imgValid ∧ (status s).getLsbD 20 = s.payValid ∧
    (status s).getLsbD 21 = s.outValid ∧ (status s).getLsbD 22 = s.outKind ∧
    (status s).getLsbD 25 = s.en ∧ (status s).getLsbD 26 = dirCode s.dir ∧
    (status s).getLsbD 27 = s.clk ∧ (status s).getLsbD 28 = s.dataOut := by
  simp only [status, statusPins, statusFlags, statusFault, BitVec.getLsbD_append]
  simp

end Status

/-- Settles O49: every field is found by walking the appends of the packed word. -/
theorem statusPacksTheRegisters : Obligations.StatusPacksTheRegisters := by
  intro s
  obtain ⟨hfault, hgo, hpend, htrig, hok, hfound, himg, hpay, hvalid, hkind, hen, hdir, hclk, hdata⟩ :=
    status_bits s
  exact ⟨hfault, status_fcause s, status_fupc s, hgo, hpend, htrig, hok, hfound, status_color s, himg,
    hpay, hvalid, hkind, status_outArg s, hen, hdir, hclk, hdata, status_reserved s⟩

end Sys2Proof.Machine

namespace Sys2Proof.Machine

/-! ### The ROM reads back what it is given (20_memory.md R41, R47) -/

/-- Over the recursion of `write`: above the first entry it writes into the rest, and elsewhere its address
reads as unlisted in what follows it. -/
theorem read_write {m : Memory} {lo a b : Nat} {w : Word16} (hm : Memory.wfFrom lo m = true) :
    (m.write a w).read b = if b = a then w else m.read b := by
  induction m generalizing lo with
  | nil => exact read_cons rfl
  | cons cell rest ih =>
    obtain ⟨c, v⟩ := cell
    have hfrom : Memory.wfFrom c ((c, v) :: rest) = true := by simp_all [Memory.wfFrom]
    have hrest : Memory.wfFrom (c + 1) rest = true := by simp_all [Memory.wfFrom]
    obtain hlt | rfl | hgt := lt_trichotomy a c
    · rw [Memory.write, if_pos hlt, read_cons (read_below hlt hfrom)]
    · rw [Memory.write, if_neg (lt_irrefl a), if_pos rfl, read_cons (read_below a.lt_succ_self hrest)]
      by_cases hb : b = a <;> simp [Memory.read, hb]
    · rw [Memory.write, if_neg hgt.not_gt, if_neg hgt.ne', Memory.read, ih hrest, Memory.read]
      by_cases hb : b = c <;> simp [hb, hgt.ne]

/-- Settles O52: the canonical form holds from address 0 on. -/
theorem romReadsBackItsContents : Obligations.RomReadsBackItsContents :=
  fun _ _ _ _ hm _ => read_write hm

/-! ### The order of the bits on the wire (20_memory.md R43) -/

@[simp] theorem msbBits_length {w : Nat} (x : BitVec w) (n : Nat) : (msbBits x n).length = n := by
  induction n with
  | zero => rfl
  | succ i ih => simp [msbBits, ih]

/-- Shifting in the low `n` bits of `x`, most significant first, puts them below what was there. -/
theorem foldl_msbBits {w : Nat} (x : BitVec w) (n a : Nat) :
    (msbBits x n).foldl (fun v b => 2 * v + b.toNat) a = a * 2 ^ n + x.toNat % 2 ^ n := by
  induction n generalizing a with
  | zero => simp [msbBits, Nat.mod_one]
  | succ i ih =>
    calc (msbBits x (i + 1)).foldl (fun v b => 2 * v + b.toNat) a
      _ = (2 * a + (x.getLsbD i).toNat) * 2 ^ i + x.toNat % 2 ^ i := ih _
      _ = a * 2 ^ (i + 1) + (x.toNat % 2 ^ i + 2 ^ i * (x.getLsbD i).toNat) := by ring
      _ = a * 2 ^ (i + 1) + x.toNat % 2 ^ (i + 1) := by
        rw [Nat.mod_pow_succ, ← Nat.toNat_testBit]; rfl

/-- A value is read back from its bits. -/
@[simp] theorem bitsValue_msbBits {n : Nat} (x : BitVec n) : bitsValue n (msbBits x n) = x := by
  rw [bitsValue, foldl_msbBits, Nat.zero_mul, Nat.zero_add, Nat.mod_eq_of_lt x.isLt,
    BitVec.ofNat_toNat, BitVec.setWidth_eq]

/-- R85: `SendBits` appends its events, none for a width of 0. -/
theorem sendBits_hist {w : Nat} (x : BitVec w) (n : Nat) (p : Profile) (s : State) :
    (sendBits x n p s).hist = s.hist ++ txEvents x n p := by
  cases n with
  | zero => exact (List.append_nil s.hist).symm
  | succ i => rw [sendBits_succ_eq]

/-- R84: `n` times `Rx` appends the bits drawn. -/
theorem rxState_hist (n : Nat) (p : Profile) (s : State) :
    (rxState n p s).hist = s.hist ++ rxEvents (drawBits n p s) p := by
  cases n with
  | zero => exact (List.append_nil s.hist).symm
  | succ k => rw [rxState_succ_eq]

/-- `n` times `Rx` uses up the first `n` listed answers. -/
theorem rxState_answers (n : Nat) (p : Profile) (s : State) :
    (rxState n p s).answers = s.answers.drop n := by
  cases n with
  | zero => rfl
  | succ k => rw [rxState_succ_eq]

/-- Settles O8: the bits drawn are the listed ones, and they are the bits of the value. -/
theorem wireIsMostSignificantBitFirst : Obligations.WireIsMostSignificantBitFirst := by
  refine ⟨fun w x n p s => sendBits_hist x n p s, fun n x p s rest hs => ?_⟩
  have hdrawn : drawBits n p s = msbBits x n := drawBits_of_answers hs (msbBits_length x n)
  rw [recvBits_eq, hdrawn]
  refine ⟨bitsValue_msbBits x, ?_, ?_⟩
  · rw [rxState_answers, hs, List.drop_left' (msbBits_length x n)]
  · rw [rxState_hist, hdrawn, rxEvents]

/-! ### What a turn can do (00_scope.md R14, 45_sequencer.md R124, 60_exceptions.md R146 to R148, R166) -/

/-- The state `t` is what one turn taken in `s` leaves, each way with its guard. -/
inductive Moves (s : State) : State → Prop where
  /-- while RESET is asserted -/
  | reset (hr : s.resetIn = true) : Moves s (applyReset s)
  /-- the engine runs the operation it fetches -/
  | ran {t : State} {i : Instr} (hr : s.resetIn = false) (hen : engineEnabled s = true)
      (hi : decode (fetch s) = .ok i) (ht : exec i s = .next t) : Moves s t
  /-- the engine fetches a word that is no operation -/
  | illegal {e : DecodeError} (hr : s.resetIn = false) (hen : engineEnabled s = true)
      (he : decode (fetch s) = .error e) : Moves s (raiseFault .illegalOp s)
  /-- an edge is latched -/
  | latched (hr : s.resetIn = false) : Moves s (edgeStep s)
  /-- a pending edge is delivered -/
  | delivered (hr : s.resetIn = false) (hen : deliverEnabled s = true) : Moves s (deliverStep s)
  /-- the turn of an agent that has no enabled step (log entries 7 and 9) -/
  | passed (hr : s.resetIn = false) (hen : engineEnabled s = false ∨ deliverEnabled s = false) :
      Moves s s
  | presentSet (b : Bit) : Moves s { s with present := b }
  | resetSet (b : Bit) : Moves s (setResetInput b s)

theorem runFetched_moves {s t : State} (hr : s.resetIn = false) (hen : engineEnabled s = true)
    (h : runFetched s = .next t) : Moves s t := by
  unfold runFetched at h
  split at h
  next i hi => exact .ran hr hen hi h
  next e he => cases h; exact .illegal hr hen he

theorem engineTurn_moves {s t : State} (hr : s.resetIn = false) (h : engineTurn s = .next t) :
    Moves s t := by
  unfold engineTurn at h
  split at h
  next hen => exact runFetched_moves hr hen h
  next hen => cases h; exact .passed hr (.inl (Bool.eq_false_iff.mpr hen))

theorem deliverTurn_moves {s : State} (hr : s.resetIn = false) : Moves s (deliverTurn s) := by
  unfold deliverTurn
  split
  next hen => exact .delivered hr hen
  next hen => exact .passed hr (.inr (Bool.eq_false_iff.mpr hen))

/-- R166: an agent's turn leaves the reset state while RESET is asserted. -/
theorem moves_of_reset_guard {s t : State} {o : Host.Outcome State Fault Refusal}
    (h : (if s.resetIn then .next (applyReset s) else o) = .next t)
    (ho : s.resetIn = false → o = .next t → Moves s t) : Moves s t := by
  split at h
  next hr => cases h; exact .reset hr
  next hr => exact ho (Bool.eq_false_iff.mpr hr) h

theorem idleTurn_moves {s t : State} (h : idleTurn s = .next t) : Moves s t := by
  refine moves_of_reset_guard h fun hr ho => ?_
  split_ifs at ho with hen hdel hfault
  · exact runFetched_moves hr hen ho
  · cases ho; exact .delivered hr hdel
  · cases ho; exact .passed hr (.inl (Bool.eq_false_iff.mpr hen))

theorem takeTurn_moves {x : Turn} {s t : State} (h : takeTurn x s = .next t) : Moves s t := by
  cases x with
  | setReset b => cases h; exact .resetSet b
  | setPresent b => cases h; exact .presentSet b
  | engine => exact moves_of_reset_guard h engineTurn_moves
  | edge => exact moves_of_reset_guard h fun hr ho => by cases ho; exact .latched hr
  | deliver => exact moves_of_reset_guard h fun hr ho => by cases ho; exact deliverTurn_moves hr

/-- A step that answers a next state is one turn, of the agents where the agenda lists none, and the
listed one is used up. -/
theorem step_moves {s t : State} (h : step s = .next t) :
    Moves { s with agenda := s.agenda.tail } t := by
  unfold step at h
  split at h
  · split at h
    next hx =>
      have hs : { s with agenda := s.agenda.tail } = s := by rw [hx, List.tail_nil, ← hx]
      rw [hs]
      exact idleTurn_moves h
    next x rest hx => exact hx ▸ takeTurn_moves h
  · nomatch h

/-! ### The block as built (00_scope.md R6, 20_memory.md R60) -/

/-- No operation has the ROM or the configuration as a destination. -/
theorem exec_asBuilt {i : Instr} {s t : State} (h : exec i s = .next t) :
    t.rom = s.rom ∧ t.cfg = s.cfg :=
  Prod.mk.inj (exec_keeps (fun u => (u.rom, u.cfg)) h fun _ => by cases i <;> rfl)

theorem setResetInput_asBuilt (b : Bit) (s : State) :
    (setResetInput b s).rom = s.rom ∧ (setResetInput b s).cfg = s.cfg := by
  cases b <;> exact ⟨rfl, rfl⟩

/-- No turn has either. -/
theorem Moves.asBuilt {s t : State} (h : Moves s t) : t.rom = s.rom ∧ t.cfg = s.cfg := by
  cases h with
  | ran _ _ _ ht => exact exec_asBuilt ht
  | resetSet b => exact setResetInput_asBuilt b s
  | reset | illegal | latched | delivered | passed | presentSet => exact ⟨rfl, rfl⟩

/-- Settles O51: a step is one turn, and of the turns only the engine's runs an operation. -/
theorem noStepWritesTheRom : Obligations.NoStepWritesTheRom :=
  fun _ _ h => (step_moves h).asBuilt

/-! ### The trigger unit beside the operations (20_memory.md R55, 60_exceptions.md R153) -/

/-- The state with PendingTrigger and the edge latch at given values: what the steps of the trigger unit
write. -/
def setTrigger (g e : Bit) (s : State) : State := { s with go := g, edgePend := e }

theorem edgeStep_eq_setTrigger (s : State) : edgeStep s = setTrigger s.go true s := rfl

theorem deliverStep_eq_setTrigger : deliverStep = setTrigger true false := rfl

section Trigger

variable (g e : Bit)

@[simp] theorem setTrigger_cfg (s : State) : (setTrigger g e s).cfg = s.cfg := rfl
@[simp] theorem setTrigger_present (s : State) : (setTrigger g e s).present = s.present := rfl
@[simp] theorem setTrigger_color (s : State) : (setTrigger g e s).color = s.color := rfl
@[simp] theorem setTrigger_pay (s : State) : (setTrigger g e s).pay = s.pay := rfl

/-! The line procedures neither read nor write what the trigger unit writes. -/

theorem advance_setTrigger (s : State) :
    advance (setTrigger g e s) = setTrigger g e (advance s) := rfl

@[simp] theorem setEn_setTrigger (b : Bit) (s : State) :
    setEn b (setTrigger g e s) = setTrigger g e (setEn b s) := by
  rw [setEn_eq, setEn_eq]
  rfl

@[simp] theorem setDir_setTrigger (d : Dir) (s : State) :
    setDir d (setTrigger g e s) = setTrigger g e (setDir d s) := by
  rw [setDir_eq, setDir_eq]
  rfl

@[simp] theorem pulseArm_setTrigger (s : State) :
    pulseArm (setTrigger g e s) = setTrigger g e (pulseArm s) := by
  rw [pulseArm_eq, pulseArm_eq]
  rfl

@[simp] theorem tx_setTrigger (v : Bit) (p : Profile) (s : State) :
    tx v p (setTrigger g e s) = setTrigger g e (tx v p s) := rfl

@[simp] theorem settle_setTrigger (s : State) :
    settle (setTrigger g e s) = setTrigger g e (settle s) := rfl

@[simp] theorem setImg_setTrigger (k : Nat) (v : Byte) (s : State) :
    setImg k v (setTrigger g e s) = setTrigger g e (setImg k v s) := rfl

@[simp] theorem sendBits_setTrigger {w : Nat} (x : BitVec w) (n : Nat) (p : Profile) (s : State) :
    sendBits x n p (setTrigger g e s) = setTrigger g e (sendBits x n p s) := by
  induction n generalizing s with
  | zero => rfl
  | succ i ih => simp [sendBits, ih]

@[simp] theorem sendBytes_setTrigger (xs : List Byte) (p : Profile) (s : State) :
    sendBytes xs p (setTrigger g e s) = setTrigger g e (sendBytes xs p s) := by
  induction xs generalizing s with
  | nil => rfl
  | cons x rest ih => simp [sendBytes, ih]

@[simp] theorem writeBytes_setTrigger (xs : List Byte) (s : State) :
    writeBytes xs (setTrigger g e s) = setTrigger g e (writeBytes xs s) := by
  induction xs generalizing s with
  | nil => rfl
  | cons x rest ih => simp [writeBytes, ih]

/-- R16: the oracle sees the history and the free choice alone. -/
@[simp] theorem drawBits_setTrigger (n : Nat) (p : Profile) (s : State) :
    drawBits n p (setTrigger g e s) = drawBits n p s := drawBits_congr rfl rfl rfl

@[simp] theorem rxState_setTrigger (n : Nat) (p : Profile) (s : State) :
    rxState n p (setTrigger g e s) = setTrigger g e (rxState n p s) := by
  induction n generalizing s with
  | zero => rfl
  | succ k ih => exact ih (rx p s).2

@[simp] theorem recvImage_setTrigger (n k : Nat) (p : Profile) (s : State) :
    recvImage n k p (setTrigger g e s) = setTrigger g e (recvImage n k p s) := by
  induction n generalizing k s with
  | zero => rfl
  | succ m ih => simp [recvImage, recvBits_eq, ih]

/-! The bodies of the stage operations. -/

theorem sendFrame_setTrigger (f : FrameId) (s : State) :
    sendFrame f (setTrigger g e s) = setTrigger g e (sendFrame f s) := by
  simp [sendFrame]

theorem writePayload_setTrigger (s : State) :
    writePayload (setTrigger g e s) = setTrigger g e (writePayload s) := by
  simp [writePayload]

theorem readBlock_setTrigger (col : Color) (p : Profile) (s : State) :
    readBlock col p (setTrigger g e s) = setTrigger g e (readBlock col p s) := by
  have hstart : { setTrigger g e s with imgValid := false } = setTrigger g e { s with imgValid := false } :=
    rfl
  simp only [readBlock, hstart, pulseArm_setTrigger, setDir_setTrigger, setTrigger_cfg,
    sendBits_setTrigger, recvBits_eq, drawBits_setTrigger, rxState_setTrigger, setImg_setTrigger,
    recvImage_setTrigger, setEn_setTrigger]

theorem probe_setTrigger (col : Color) (s : State) :
    probe col (setTrigger g e s) = ((probe col s).1, setTrigger g e (probe col s).2) := by
  simp [probe, recvBits_eq]

theorem probeLoop_setTrigger (cs : List Color) (s : State) :
    probeLoop cs (setTrigger g e s) = setTrigger g e (probeLoop cs s) := by
  induction cs generalizing s with
  | nil => simp [probeLoop]
  | cons col rest ih =>
    rw [probeLoop_cons, probeLoop_cons, probe_setTrigger]
    split
    · rfl
    · exact ih _

theorem discover_setTrigger (s : State) :
    discover (setTrigger g e s) = setTrigger g e (discover s) := by
  have hstart : discoverStart (setTrigger g e s) = setTrigger g e (discoverStart s) := rfl
  rw [discover, discover, hstart, setTrigger_present]
  split
  · exact probeLoop_setTrigger g e probeOrder (discoverStart s)
  · simp

variable {g e} {i : Instr} {s : State}

/-- No fault of R144 depends on what the trigger unit writes. -/
theorem faultOf_setTrigger : faultOf i (setTrigger g e s) = faultOf i s := by
  cases i <;> rfl

/-- ARM alone writes what the trigger unit writes, and WAIT_GO alone reads it: PendingTrigger. -/
theorem completed_setTrigger (harm : i ≠ .arm) (hwait : i = .waitGo → g = s.go) :
    completed i (setTrigger g e s) = setTrigger g e (completed i s) := by
  cases i with
  | pulseArm => exact congrArg advance (pulseArm_setTrigger g e s)
  | enOff => exact congrArg advance (setEn_setTrigger g e false s)
  | setDir d => exact congrArg advance (setDir_setTrigger g e d s)
  | discover => exact congrArg advance (discover_setTrigger g e s)
  | sendFrame f => exact congrArg advance (sendFrame_setTrigger g e f s)
  | readBlock p => rw [completed, completed, setTrigger_color, readBlock_setTrigger, advance_setTrigger]
  | writePayload => exact congrArg advance (writePayload_setTrigger g e s)
  | waitGo =>
    obtain rfl := hwait rfl
    rw [completed, completed, apply_ite (setTrigger s.go e)]
    rfl
  | brf a =>
    rw [completed, completed, apply_ite (setTrigger g e)]
    rfl
  | arm => exact absurd rfl harm
  | _ => rfl

/-- An operation but ARM may come before or after a write of the trigger unit, which for WAIT_GO has to
leave PendingTrigger. -/
theorem exec_setTrigger (harm : i ≠ .arm) (hwait : i = .waitGo → g = s.go) :
    exec i (setTrigger g e s) = mapNext (setTrigger g e) (exec i s) := by
  rw [exec_eq, exec_eq, faultOf_setTrigger]
  cases faultOf i s with
  | some c => rfl
  | none => exact congrArg Host.Outcome.next (completed_setTrigger harm hwait)

/-- R55: an edge keeps PendingTrigger, and so does the operation. -/
theorem exec_edgeStep (harm : i ≠ .arm) :
    exec i (edgeStep s) = mapNext edgeStep (exec i s) := by
  obtain ⟨t, ht, -⟩ := exec_answersNext i s
  have hgo : t.go = s.go := (exec_trigger ht harm).1
  rw [edgeStep_eq_setTrigger, exec_setTrigger harm fun _ => rfl, ht, mapNext, mapNext,
    edgeStep_eq_setTrigger, hgo]

/-- R55, R153: a delivery sets PendingTrigger, which WAIT_GO alone reads. -/
theorem exec_deliverStep (harm : i ≠ .arm) (hwait : i ≠ .waitGo) :
    exec i (deliverStep s) = mapNext deliverStep (exec i s) :=
  deliverStep_eq_setTrigger ▸ exec_setTrigger harm fun h => absurd h hwait

end Trigger

/-- Settles O34: both steps of the trigger unit write its registers alone. -/
theorem triggerStepsCommuteWithOperations : Obligations.TriggerStepsCommuteWithOperations :=
  fun _ _ harm => ⟨exec_edgeStep harm, exec_deliverStep harm⟩

end Sys2Proof.Machine

namespace Sys2Proof

/-! ### The operand fields of each format (30_encoding.md R63) -/

/-- A one-bit field is its bit. -/
theorem extract_one {n : Nat} (x : BitVec n) (k : Nat) :
    x.extractLsb' k 1 = BitVec.ofBool (x.getLsbD k) := by
  ext j hj
  obtain rfl : j = 0 := by omega
  simp

/-- A vector whose high field is 0 is its low field. -/
theorem eq_zero_append {m n : Nat} {r : BitVec (m + n)} (h : r.extractLsb' n m = 0) :
    r = 0#m ++ r.extractLsb' 0 n := by
  have hcut := append_extract r
  rw [h] at hcut
  exact hcut.symm

theorem operandBit0_mbz (b : Bit) : (operandBit0 b).extractLsb' 1 10 = 0 :=
  BitVec.extractLsb'_append_eq_left

theorem operandBit0_bit (b : Bit) : (operandBit0 b).getLsbD 0 = b := by
  simp only [operandBit0, BitVec.getLsbD_append]
  simp

theorem eq_operandBit0 {r : BitVec 11} (h : r.extractLsb' 1 10 = 0) :
    r = operandBit0 (r.getLsbD 0) := by
  rw [operandBit0, ← extract_one]
  exact eq_zero_append (m := 10) (n := 1) h

theorem operandBS_mbz (p : BitVec 2) (v : Bit) : (operandBS p v).extractLsb' 3 8 = 0 :=
  BitVec.extractLsb'_append_eq_left (b := p ++ BitVec.ofBool v)

theorem operandBS_profile (p : BitVec 2) (v : Bit) : (operandBS p v).extractLsb' 1 2 = p := by
  rw [operandBS, BitVec.extractLsb'_append_eq_of_add_le (by decide), BitVec.extractLsb'_append_eq_left]

theorem operandBS_bit (p : BitVec 2) (v : Bit) : (operandBS p v).getLsbD 0 = v := by
  simp only [operandBS, BitVec.getLsbD_append]
  simp

theorem eq_operandBS {r : BitVec 11} (h : r.extractLsb' 3 8 = 0) :
    r = operandBS (r.extractLsb' 1 2) (r.getLsbD 0) := by
  have hlow : r.extractLsb' 1 2 ++ r.extractLsb' 0 1 = r.extractLsb' 0 3 :=
    BitVec.extractLsb'_append_extractLsb'_eq_extractLsb' rfl
  rw [operandBS, ← extract_one, hlow]
  exact eq_zero_append (m := 8) (n := 3) h

theorem operandT_mbz (a : BitVec 8) : (operandT a).extractLsb' 8 3 = 0 :=
  BitVec.extractLsb'_append_eq_left

theorem operandT_target (a : BitVec 8) : (operandT a).extractLsb' 0 8 = a :=
  BitVec.extractLsb'_append_eq_right

theorem eq_operandT {r : BitVec 11} (h : r.extractLsb' 8 3 = 0) :
    r = operandT (r.extractLsb' 0 8) := eq_zero_append (m := 3) (n := 8) h

theorem operandRP_mbz (k : Bit) (a : BitVec 2) : (operandRP k a).extractLsb' 2 8 = 0 := by
  rw [operandRP, BitVec.extractLsb'_append_eq_of_add_le (by decide), BitVec.extractLsb'_append_eq_left]
  rfl

theorem operandRP_kind (k : Bit) (a : BitVec 2) : (operandRP k a).getLsbD 10 = k := by
  simp only [operandRP, BitVec.getLsbD_append]
  simp

theorem operandRP_arg (k : Bit) (a : BitVec 2) : (operandRP k a).extractLsb' 0 2 = a := by
  rw [operandRP, BitVec.extractLsb'_append_eq_of_add_le (by decide), BitVec.extractLsb'_append_eq_right]

theorem eq_operandRP {r : BitVec 11} (h : r.extractLsb' 2 8 = 0) :
    r = operandRP (r.getLsbD 10) (r.extractLsb' 0 2) := by
  have hlow : r.extractLsb' 2 8 ++ r.extractLsb' 0 2 = r.extractLsb' 0 10 :=
    BitVec.extractLsb'_append_extractLsb'_eq_extractLsb' rfl
  rw [h] at hlow
  rw [operandRP, ← extract_one]
  calc r = r.extractLsb' 10 1 ++ r.extractLsb' 0 10 :=
        (append_extract (m := 1) (n := 10) r).symm
    _ = r.extractLsb' 10 1 ++ (0#8 ++ r.extractLsb' 0 2) :=
        congrArg (r.extractLsb' 10 1 ++ ·) hlow.symm

/-- Code 11 names no profile, and the other codes are those of R64. -/
theorem profileOfField_eq_some_iff (f : BitVec 2) (p : Profile) :
    profileOfField f = some p ↔ f = fieldOfProfile p := by
  revert f
  cases p <;> decide

/-! ### What each format reads, and from which operand bits (R63 to R69) -/

theorem decodeN_eq_ok_iff {i j : Instr} {r : BitVec 11} :
    decodeN i r = .ok j ↔ r = 0 ∧ j = i := by
  unfold decodeN
  split
  next h => simp [h, eq_comm]
  next h => exact ⟨nofun, fun ⟨hr, _⟩ => absurd hr h⟩

theorem decodeBit0_eq_ok_iff {mk : Bit → Instr} {j : Instr} {r : BitVec 11} :
    decodeBit0 mk r = .ok j ↔ ∃ b, r = operandBit0 b ∧ j = mk b := by
  constructor
  · intro h
    unfold decodeBit0 at h
    split at h
    next hz => cases h; exact ⟨_, eq_operandBit0 hz, rfl⟩
    next => nomatch h
  · rintro ⟨b, rfl, rfl⟩
    rw [decodeBit0, if_pos (operandBit0_mbz b), operandBit0_bit]

theorem decodeBS_eq_ok_iff {mk : Profile → Bit → Instr} {j : Instr} {r : BitVec 11} :
    decodeBS mk r = .ok j ↔ ∃ p v, r = operandBS (fieldOfProfile p) v ∧ j = mk p v := by
  constructor
  · intro h
    unfold decodeBS at h
    split at h
    next hz =>
      split at h
      next p hp =>
        cases h
        exact ⟨p, _, (profileOfField_eq_some_iff _ p).mp hp ▸ eq_operandBS hz, rfl⟩
      next => nomatch h
    next => nomatch h
  · rintro ⟨p, v, rfl, rfl⟩
    rw [decodeBS, if_pos (operandBS_mbz _ v), operandBS_profile, operandBS_bit,
      profileOfField_fieldOfProfile]

/-- Format P is format BS with `V` a must-be-zero bit. -/
theorem decodeP_eq_ok_iff {mk : Profile → Instr} {j : Instr} {r : BitVec 11} :
    decodeP mk r = .ok j ↔ ∃ p, r = operandBS (fieldOfProfile p) false ∧ j = mk p := by
  constructor
  · intro h
    unfold decodeP at h
    split at h
    next hz =>
      obtain ⟨hz, hv⟩ := hz
      split at h
      next p hp =>
        cases h
        exact ⟨p, hv ▸ (profileOfField_eq_some_iff _ p).mp hp ▸ eq_operandBS hz, rfl⟩
      next => nomatch h
    next => nomatch h
  · rintro ⟨p, rfl, rfl⟩
    rw [decodeP, if_pos ⟨operandBS_mbz _ false, operandBS_bit _ false⟩, operandBS_profile,
      profileOfField_fieldOfProfile]

theorem decodeT_eq_ok_iff {mk : BitVec 8 → Instr} {j : Instr} {r : BitVec 11} :
    decodeT mk r = .ok j ↔ ∃ a, r = operandT a ∧ j = mk a := by
  constructor
  · intro h
    unfold decodeT at h
    split at h
    next hz => cases h; exact ⟨_, eq_operandT hz, rfl⟩
    next => nomatch h
  · rintro ⟨a, rfl, rfl⟩
    rw [decodeT, if_pos (operandT_mbz a), operandT_target]

/-- R69: `K = 0` with `A = 0` is the success, `K = 1` with `A ≠ 0` an error, and no other pair is read. -/
theorem decodeRP_eq_ok_iff {j : Instr} {r : BitVec 11} :
    decodeRP r = .ok j ↔
      (r = operandRP false 0 ∧ j = .reportSuccess) ∨
      ∃ a, a ≠ 0 ∧ r = operandRP true a ∧ j = .reportError a := by
  constructor
  · intro h
    unfold decodeRP at h
    split at h
    next hz =>
      have hr := eq_operandRP hz
      split at h
      next hk ha =>
        cases h
        rw [hk, of_decide_eq_true ha] at hr
        exact .inl ⟨hr, rfl⟩
      next hk ha =>
        cases h
        rw [hk] at hr
        exact .inr ⟨_, of_decide_eq_false ha, hr, rfl⟩
      next => nomatch h
    next => nomatch h
  · rintro (⟨rfl, rfl⟩ | ⟨a, ha, rfl, rfl⟩)
    · rfl
    · rw [decodeRP, if_pos (operandRP_mbz true a), operandRP_kind, operandRP_arg, decide_eq_false ha]

/-! ### The decoder and the encoder are inverse (R62, R71, R72, R74) -/

/-- A word whose two fields are the operation's is its word. -/
theorem encode_eq_of_fields {w : Word16} {i : Instr} (ho : (opcodeField w).toNat = i.opcode.toNat)
    (hr : operandField w = i.operands) : encode i = w := by
  rw [encode, ← BitVec.eq_of_toNat_eq ho, ← hr, wordOf_fields]

/-- The decoder reads every well-formed operation back from its two fields. -/
theorem decode_encode {i : Instr} (hwf : i.wf = true) : decode (encode i) = .ok i := by
  simp only [decode, encode, opcodeField_wordOf, operandField_wordOf]
  cases i with
  | setDir d => exact decodeBit0_eq_ok_iff.mpr ⟨bitOfDir d, rfl, by simp⟩
  | sendFrame f => exact decodeBit0_eq_ok_iff.mpr ⟨bitOfFrame f, rfl, by simp⟩
  | sendBit p v => exact decodeBS_eq_ok_iff.mpr ⟨p, v, rfl, rfl⟩
  | recvBit p | readBlock p => exact decodeP_eq_ok_iff.mpr ⟨p, rfl, rfl⟩
  | reportError a => exact decodeRP_eq_ok_iff.mpr (.inr ⟨a, bne_iff_ne.mp hwf, rfl, rfl⟩)
  | jmp a | brf a => exact decodeT_eq_ok_iff.mpr ⟨a, rfl, rfl⟩
  | _ => rfl

/-- A word that decodes has the fields of a well-formed operation: one case for each opcode, in the order
of the decoder's table, grouped by format. -/
theorem encode_of_decode {w : Word16} {i : Instr} (h : decode w = .ok i) :
    encode i = w ∧ i.wf = true := by
  unfold decode at h
  split at h
  case h_2 ho | h_3 ho | h_7 ho | h_8 ho | h_9 ho | h_12 ho | h_13 ho | h_14 ho | h_15 ho | h_16 ho
      | h_17 ho | h_18 ho =>
    obtain ⟨hr, rfl⟩ := decodeN_eq_ok_iff.mp h
    exact ⟨encode_eq_of_fields ho hr, rfl⟩
  case h_4 ho | h_10 ho =>
    obtain ⟨b, hr, rfl⟩ := decodeBit0_eq_ok_iff.mp h
    exact ⟨encode_eq_of_fields ho (by cases b <;> exact hr), rfl⟩
  case h_5 ho =>
    obtain ⟨p, v, hr, rfl⟩ := decodeBS_eq_ok_iff.mp h
    exact ⟨encode_eq_of_fields ho hr, rfl⟩
  case h_6 ho | h_11 ho =>
    obtain ⟨p, hr, rfl⟩ := decodeP_eq_ok_iff.mp h
    exact ⟨encode_eq_of_fields ho hr, rfl⟩
  case h_19 ho =>
    obtain ⟨hr, rfl⟩ | ⟨a, ha, hr, rfl⟩ := decodeRP_eq_ok_iff.mp h
    · exact ⟨encode_eq_of_fields ho hr, rfl⟩
    · exact ⟨encode_eq_of_fields ho hr, bne_iff_ne.mpr ha⟩
  case h_20 ho | h_21 ho =>
    obtain ⟨a, hr, rfl⟩ := decodeT_eq_ok_iff.mp h
    exact ⟨encode_eq_of_fields ho hr, rfl⟩
  case h_1 ho | h_22 ho | h_23 ho | h_24 ho | h_25 ho | h_26 ho | h_27 ho | h_28 ho | h_29 ho | h_30 ho
      | h_31 ho =>
    cases h
    exact ⟨encode_eq_of_fields ho rfl, rfl⟩
  case h_32 =>
    cases h
    have ho : (opcodeField w).toNat = 0x1F := by
      have hlt := (opcodeField w).isLt
      simp only [imp_false] at *
      omega
    exact ⟨encode_eq_of_fields ho rfl, rfl⟩

/-- The words that decode are the words of the well-formed operations. -/
theorem decode_eq_ok_iff {w : Word16} {i : Instr} :
    decode w = .ok i ↔ encode i = w ∧ i.wf = true :=
  ⟨encode_of_decode, fun ⟨hw, hwf⟩ => hw ▸ decode_encode hwf⟩

/-- Settles O35: each format reads its operand fields back. -/
theorem decodeOfEncodeIsTheOperation : Obligations.DecodeOfEncodeIsTheOperation :=
  fun _ => decode_encode

/-- Settles O36: one case for each opcode. -/
theorem encodeOfDecodeIsTheWord : Obligations.EncodeOfDecodeIsTheWord :=
  fun _ _ => encode_of_decode

/-! ### The legal words (R71) -/

/-- A legal word is the word of a well-formed operation that is not reserved. -/
theorem isLegalWord_iff {w : Word16} :
    isLegalWord w = true ↔ ∃ i : Instr, (i.wf = true ∧ i.isReserved = false) ∧ encode i = w := by
  have hdecode : isLegalWord w = true ↔ ∃ i : Instr, decode w = .ok i ∧ i.isReserved = false := by
    cases h : decode w <;> simp [isLegalWord, h]
  rw [hdecode]
  refine exists_congr fun i => ?_
  rw [decode_eq_ok_iff, and_assoc, and_comm, and_assoc]

/-- The operations of R71 but the branches, in its order. -/
def fixedOperations : List Instr :=
  [.pulseArm, .enOff, .setDir .output, .setDir .input, .sendBit .dr false, .sendBit .dr true,
    .sendBit .fast false, .sendBit .fast true, .sendBit .wr false, .sendBit .wr true, .recvBit .dr,
    .recvBit .fast, .recvBit .wr, .settle, .sense, .discover, .sendFrame .header, .sendFrame .trailer,
    .readBlock .dr, .readBlock .fast, .readBlock .wr, .verify, .buildPayload, .writePayload,
    .readbackCmp, .clearBuf, .waitGo, .arm, .reportSuccess, .reportError 1, .reportError 2,
    .reportError 3]

theorem fixedOperations_map_encode : fixedOperations.map encode =
    [0x0800, 0x1000, 0x1800, 0x1801, 0x2000, 0x2001, 0x2002, 0x2003, 0x2004, 0x2005, 0x2800, 0x2802,
      0x2804, 0x3000, 0x3800, 0x4000, 0x4800, 0x4801, 0x5000, 0x5002, 0x5004, 0x5800, 0x6000, 0x6800,
      0x7000, 0x7800, 0x8000, 0x8800, 0x9000, 0x9401, 0x9402, 0x9403] := rfl

theorem wf_of_mem_fixedOperations :
    ∀ i ∈ fixedOperations, i.wf = true ∧ i.isReserved = false := by decide

/-- The operations with an instruction (R71, R75): the fixed ones, and a branch to any target. -/
theorem wf_not_isReserved_iff (i : Instr) : (i.wf = true ∧ i.isReserved = false) ↔
    i ∈ fixedOperations ∨ (∃ a, i = .jmp a) ∨ ∃ a, i = .brf a := by
  constructor
  · rintro ⟨hwf, hres⟩
    cases i with
    | jmp a => exact .inr (.inl ⟨a, rfl⟩)
    | brf a => exact .inr (.inr ⟨a, rfl⟩)
    | setDir d => exact .inl (by cases d <;> decide)
    | sendFrame f => exact .inl (by cases f <;> decide)
    | sendBit p v => exact .inl (by cases p <;> cases v <;> decide)
    | recvBit p | readBlock p => exact .inl (by cases p <;> decide)
    | reportError a => exact .inl (by revert a; decide)
    | pulseArm | enOff | settle | sense | discover | verify | buildPayload | writePayload
    | readbackCmp | clearBuf | waitGo | arm | reportSuccess => exact .inl (by decide)
    | _ => nomatch hres
  · rintro (hi | ⟨a, rfl⟩ | ⟨a, rfl⟩)
    · exact wf_of_mem_fixedOperations i hi
    · exact ⟨rfl, rfl⟩
    · exact ⟨rfl, rfl⟩

/-- The words of opcode 0x13, with the target in the low byte. -/
theorem encode_jmp (a : BitVec 8) : encode (.jmp a) = 0x98#8 ++ a :=
  (BitVec.append_assoc (x₁ := 0x13#5) (x₂ := 0#3) (x₃ := a)).symm

/-- The words of opcode 0x14, with the target in the low byte. -/
theorem encode_brf (a : BitVec 8) : encode (.brf a) = 0xA0#8 ++ a :=
  (BitVec.append_assoc (x₁ := 0x14#5) (x₂ := 0#3) (x₃ := a)).symm

/-- Settles O37: the legal words are the words of the fixed operations and of the branches. -/
theorem legalWordsAreTheListedOnes : Obligations.LegalWordsAreTheListedOnes := by
  intro w
  rw [isLegalWord_iff, ← fixedOperations_map_encode, List.mem_map]
  simp only [wf_not_isReserved_iff, or_and_right, exists_or]
  refine or_congr Iff.rfl (or_congr ?_ ?_)
  · simp [encode_jmp, eq_comm]
  · simp [encode_brf, eq_comm]

/-- Settles O38: thirteen fixed words, decoded. -/
theorem sampleWordsDecode : Obligations.SampleWordsDecode :=
  ⟨rfl, rfl, rfl, rfl, rfl, rfl, rfl, rfl, rfl, rfl, rfl, rfl, rfl⟩

end Sys2Proof

namespace Sys2Proof.Machine

/-! ### Illegal words (30_encoding.md R73, R75) -/

/-- Each reserved opcode has its constructor. -/
theorem decode_of_reserved_opcode {w : Word16}
    (h : (opcodeField w).toNat = 0x00 ∨ 0x15 ≤ (opcodeField w).toNat) :
    ∃ i : Instr, i.isReserved = true ∧ decode w = .ok i := by
  have hlt := (opcodeField w).isLt
  unfold decode
  generalize (opcodeField w).toNat = o at h hlt
  obtain rfl | hge := h
  · exact ⟨.reserved00 _, rfl, rfl⟩
  · interval_cases o <;> exact ⟨_, by rfl, rfl⟩

theorem faultOf_of_isReserved {i : Instr} (h : i.isReserved = true) (s : State) :
    faultOf i s = some .illegalOp := by
  cases i with
  | reserved00 | reserved15 | reserved16 | reserved17 | reserved18 | reserved19 | reserved1A
  | reserved1B | reserved1C | reserved1D | reserved1E | reserved1F => rfl
  | _ => nomatch h

/-- R75: a reserved operation does nothing but take the fault. -/
theorem exec_of_isReserved {i : Instr} (h : i.isReserved = true) (s : State) :
    exec i s = .next (raiseFault .illegalOp s) := by
  rw [exec_eq, faultOf_of_isReserved h, Option.elim_some]

/-- Settles O28: the twelve opcodes have reserved constructors, each of which raises the fault. -/
theorem reservedOpcodesRaiseIllegalOp : Obligations.ReservedOpcodesRaiseIllegalOp :=
  ⟨fun _ => decode_of_reserved_opcode, fun _ s h => exec_of_isReserved h s⟩

/-- A word that is not legal decodes to a reserved operation or to none. -/
theorem decode_of_not_isLegalWord {w : Word16} (h : isLegalWord w = false) :
    (∃ i : Instr, i.isReserved = true ∧ decode w = .ok i) ∨ ∃ e, decode w = .error e := by
  cases hd : decode w with
  | ok i => exact .inl ⟨i, by simpa [isLegalWord, hd] using h, rfl⟩
  | error e => exact .inr ⟨e, rfl⟩

/-- R73: both kinds of illegal word raise the same fault at their fetch. -/
theorem runFetched_of_not_isLegalWord {s : State} (h : isLegalWord (fetch s) = false) :
    runFetched s = .next (raiseFault .illegalOp s) := by
  unfold runFetched
  obtain ⟨i, hres, hi⟩ | ⟨e, he⟩ := decode_of_not_isLegalWord h
  · rw [hi]
    exact exec_of_isReserved hres s
  · rw [he]

/-- An illegal word is no WAIT_GO, so the engine does not hold at it (R124). -/
theorem engineEnabled_of_not_isLegalWord {s : State} (hf : s.fault = false)
    (h : isLegalWord (fetch s) = false) : engineEnabled s = true := by
  have hhold : holds s = false := by
    unfold holds
    split
    next hwait => simp [isLegalWord, hwait, Instr.isReserved] at h
    next => rfl
  rw [engineEnabled, hf, hhold]
  rfl

/-- With an empty agenda an enabled engine goes first (log entry 7). -/
theorem step_of_engineEnabled {s : State} (hwf : configWf s.cfg = true) (hr : s.resetIn = false)
    (hen : engineEnabled s = true) (hx : s.agenda = []) : step s = runFetched s := by
  rw [step, if_pos hwf, hx]
  simp [idleTurn, hr, hen]

/-- An enabled engine that is given a turn runs the word it fetches (R124). -/
theorem takeTurn_engine {s : State} (hr : s.resetIn = false) (hen : engineEnabled s = true) :
    takeTurn .engine s = runFetched s := by
  simp [takeTurn, engineTurn, hr, hen]

/-- Settles O40: the engine is enabled at an illegal word, and running it raises the fault. -/
theorem illegalWordRaisesIllegalOp : Obligations.IllegalWordRaisesIllegalOp := by
  intro s hwf hr hf hill
  refine ⟨fun hx => ?_, fun rest hx => ?_⟩
  · exact (step_of_engineEnabled hwf hr (engineEnabled_of_not_isLegalWord hf hill) hx).trans
      (runFetched_of_not_isLegalWord hill)
  · have hill' : isLegalWord (fetch { s with agenda := rest }) = false := hill
    have hen := engineEnabled_of_not_isLegalWord hf hill'
    exact (step_of_agenda hwf hx).trans
      ((takeTurn_engine (s := { s with agenda := rest }) hr hen).trans
        (runFetched_of_not_isLegalWord hill'))

end Sys2Proof.Machine

namespace Sys2Proof.Machine

/-! ### The two ways an operation goes (60_exceptions.md R144) -/

/-- An operation that raises no fault completes. -/
theorem exec_of_faultOf_eq_none {i : Instr} {s : State} (hf : faultOf i s = none) :
    exec i s = .next (completed i s) := by
  rw [exec_eq, hf, Option.elim_none]

/-- An operation raises the fault the table of R144 gives it. -/
theorem exec_of_faultOf_eq_some {i : Instr} {s : State} {c : FaultCause} (hf : faultOf i s = some c) :
    exec i s = .next (raiseFault c s) := by
  rw [exec_eq, hf, Option.elim_some]

/-! ### The lines under every operation (00_scope.md R15, 40_bit_io.md R80 to R89) -/

/-- Replaying two lists of events, one after the other. -/
theorem replay_append (line : Dir × Bit) (h ev : List Event) :
    replay line (h ++ ev) = (replay line h).bind (replay · ev) := by
  induction h generalizing line with
  | nil => rfl
  | cons e rest ih =>
    simp only [List.cons_append, replay]
    cases replayEvent line e with
    | none => rfl
    | some l => exact ih l

/-- The history still replays to the lines when the events appended to it do, from the lines on. -/
theorem LinesFollowHistory.append {s t : State} (h : LinesFollowHistory s) {ev : List Event}
    (ht : t.hist = s.hist ++ ev) (hev : replay (s.dir, s.en) ev = some (t.dir, t.en)) :
    LinesFollowHistory t := by
  unfold LinesFollowHistory at h ⊢
  rw [ht, replay_append, h]
  exact hev

/-- The line clauses of a sound state, with the direction the line is at: a bit cycle asks for one. -/
structure LinesSound (d : Dir) (s : State) : Prop where
  dir : s.dir = d
  lines : LinesFollowHistory s
  clock : ClockIdlesHigh s

namespace LinesSound

variable {d : Dir} {s : State}

theorem advance (h : LinesSound d s) : LinesSound d (advance s) := ⟨h.dir, h.lines, h.clock⟩

/-! The line procedures. -/

theorem setEn (h : LinesSound d s) (b : Bit) : LinesSound d (setEn b s) := by
  rw [setEn_eq]
  refine ⟨h.dir, h.lines.append rfl ?_, h.clock⟩
  by_cases hb : s.en = b <;> simp [enEvents, replay, replayEvent, hb]

theorem setDir (h : LinesSound d s) (e : Dir) : LinesSound e (setDir e s) := by
  rw [setDir_eq]
  refine ⟨rfl, h.lines.append rfl ?_, h.clock⟩
  by_cases he : s.dir = e <;> simp [dirEvents, replay, replayEvent, he]

theorem pulseArm (h : LinesSound d s) : LinesSound d (pulseArm s) := by
  rw [pulseArm_eq]
  refine ⟨h.dir, h.lines.append rfl ?_, h.clock⟩
  cases hen : s.en <;> simp [pulseEvents, replay, replayEvent]

/-- R89: a bit is transmitted on an output line. -/
theorem tx (h : LinesSound .output s) (v : Bit) (p : Profile) : LinesSound .output (tx v p s) :=
  ⟨h.dir, h.lines.append rfl (by simp [replay, replayEvent, h.dir, tx_eq]), rfl⟩

/-- R89: a bit is received on an input line. -/
theorem rx (h : LinesSound .input s) (p : Profile) : LinesSound .input (rx p s).2 :=
  ⟨h.dir, h.lines.append rfl (by simp [replay, replayEvent, h.dir, rx_snd]), rfl⟩

theorem settle (h : LinesSound d s) : LinesSound d (settle s) :=
  ⟨h.dir, h.lines.append rfl rfl, h.clock⟩

theorem postOutcome (h : LinesSound d s) (kind : Bit) (arg : BitVec 2) :
    LinesSound d (postOutcome kind arg s) :=
  ⟨h.dir, h.lines.append rfl rfl, h.clock⟩

theorem setImg (h : LinesSound d s) (k : Nat) (v : Byte) : LinesSound d (setImg k v s) :=
  ⟨h.dir, h.lines, h.clock⟩

theorem sendBits {w : Nat} (x : BitVec w) (n : Nat) (p : Profile) (h : LinesSound .output s) :
    LinesSound .output (sendBits x n p s) := by
  induction n generalizing s with
  | zero => exact h
  | succ i ih => exact ih (h.tx (x.getLsbD i) p)

theorem sendBytes (xs : List Byte) (p : Profile) (h : LinesSound .output s) :
    LinesSound .output (sendBytes xs p s) := by
  induction xs generalizing s with
  | nil => exact h
  | cons x rest ih => exact ih (h.sendBits x 8 p)

theorem writeBytes (xs : List Byte) (h : LinesSound .output s) :
    LinesSound .output (writeBytes xs s) := by
  induction xs generalizing s with
  | nil => exact h
  | cons x rest ih => exact ih (h.sendBits x 8 .wr).settle

theorem rxState (n : Nat) (p : Profile) (h : LinesSound .input s) :
    LinesSound .input (rxState n p s) := by
  induction n generalizing s with
  | zero => exact h
  | succ k ih => exact ih (h.rx p)

theorem recvBits (n : Nat) (p : Profile) (h : LinesSound .input s) :
    LinesSound .input (recvBits n p s).2 := by
  rw [recvBits_eq]
  exact h.rxState n p

theorem recvImage (n k : Nat) (p : Profile) (h : LinesSound .input s) :
    LinesSound .input (recvImage n k p s) := by
  induction n generalizing k s with
  | zero => exact h
  | succ m ih => exact ih (k + 1) ((h.recvBits 8 p).setImg k _)

/-! The bodies of the stage operations: each sets the direction before its bit cycles. -/

theorem sendFrame (f : FrameId) (h : LinesSound d s) : LinesSound .output (sendFrame f s) :=
  ((h.pulseArm.setDir .output).sendBytes _ .dr).setEn false

theorem writePayload (h : LinesSound d s) : LinesSound .output (writePayload s) :=
  (((h.pulseArm.setDir .output).sendBits _ 4 .wr).writeBytes _).setEn false

theorem readBlock (col : Color) (p : Profile) (h : LinesSound d s) :
    LinesSound .output (readBlock col p s) := by
  have hstart : LinesSound d { s with imgValid := false } := ⟨h.dir, h.lines, h.clock⟩
  simp only [Machine.readBlock, recvBits_eq]
  have hsent (x : Nibble) := ((hstart.pulseArm.setDir .output).sendBits x 4 .dr).setDir .input
  exact (((((hsent _).rxState 4 p).setImg 0 _).recvImage 31 1 p).setEn false).setDir .output

theorem probe (col : Color) (h : LinesSound d s) : LinesSound .output (probe col s).2 :=
  ((((h.pulseArm.setDir .output).sendBits _ 4 .dr).setDir .input).recvBits 4 .dr).setDir .output

theorem probeLoop (cs : List Color) (h : LinesSound d s) : LinesSound .output (probeLoop cs s) := by
  induction cs generalizing d s with
  | nil => exact (h.setDir .output).setEn false
  | cons col rest ih =>
    have hprobe := h.probe col
    rw [probeLoop_cons]
    split
    · exact ⟨hprobe.dir, hprobe.lines, hprobe.clock⟩
    · exact ih hprobe

theorem discover (h : LinesSound d s) : LinesSound .output (discover s) := by
  have hstart : LinesSound d (discoverStart s) := ⟨h.dir, h.lines, h.clock⟩
  unfold Machine.discover
  split
  · exact hstart.probeLoop probeOrder
  · exact (hstart.setDir .output).setEn false

end LinesSound

/-- An operation that raises no fault keeps the history and the lines in step: the two bit operations
run only in their direction, every other one sets the direction it needs. -/
theorem completed_linesSound {i : Instr} {s : State} (hf : faultOf i s = none)
    (h : LinesSound s.dir s) : ∃ d, LinesSound d (completed i s) := by
  cases i with
  | pulseArm => exact ⟨_, h.pulseArm.advance⟩
  | enOff => exact ⟨_, (h.setEn false).advance⟩
  | setDir d => exact ⟨_, (h.setDir d).advance⟩
  | sendBit p v =>
    have hd : s.dir = .output := by simpa [faultOf] using hf
    exact ⟨_, ((hd ▸ h : LinesSound .output s).tx v p).advance⟩
  | recvBit p =>
    have hd : s.dir = .input := by simpa [faultOf] using hf
    have hrx := (hd ▸ h : LinesSound .input s).rx p
    exact ⟨_, hrx.dir, hrx.lines, hrx.clock⟩
  | settle => exact ⟨_, h.settle.advance⟩
  | discover => exact ⟨_, h.discover.advance⟩
  | sendFrame f => exact ⟨_, (h.sendFrame f).advance⟩
  | readBlock p => exact ⟨_, (h.readBlock s.color p).advance⟩
  | writePayload => exact ⟨_, h.writePayload.advance⟩
  | reportSuccess => exact ⟨_, (h.postOutcome false (colorCode s.color)).advance⟩
  | reportError a => exact ⟨_, (h.postOutcome true a).advance⟩
  | waitGo | brf _ =>
    rw [completed]
    split <;> exact ⟨_, h.dir, h.lines, h.clock⟩
  | _ => exact ⟨_, h.dir, h.lines, h.clock⟩

/-! ### The valid flags (10_state.md R28, R29, 44_counter_write.md R117) -/

/-- A register that `upc` leaves alone, and that `i` is not a writer of, is kept by an operation that raises
no fault. -/
theorem completed_keeps {α : Type} {i : Instr} {s : State} (f : State → α) (hf : faultOf i s = none)
    (hi : ∀ u, f (forgetWritten i u) = f u)
    (hjump : ∀ a u, f (jumpTo a u) = f u := by intros; rfl) : f (completed i s) = f s := by
  rw [← hi (completed i s), completed_writesOnlyItsOwn hf, hjump, hi]

/-- The two valid flags, which no line procedure writes. -/
def validFlags (s : State) : Bit × Bit := (s.imgValid, s.payValid)

theorem validFlags_congr {s t : State} (h : forgetLines t = forgetLines s) :
    validFlags t = validFlags s :=
  calc validFlags t
    _ = validFlags (forgetLines t) := rfl
    _ = validFlags (forgetLines s) := congrArg validFlags h

@[simp] theorem validFlags_setEn (b : Bit) (s : State) : validFlags (setEn b s) = validFlags s :=
  validFlags_congr (forgetLines_setEn b s)

@[simp] theorem validFlags_setDir (d : Dir) (s : State) : validFlags (setDir d s) = validFlags s :=
  validFlags_congr (forgetLines_setDir d s)

@[simp] theorem validFlags_pulseArm (s : State) : validFlags (pulseArm s) = validFlags s :=
  validFlags_congr (forgetLines_pulseArm s)

@[simp] theorem validFlags_sendBits {w : Nat} (x : BitVec w) (n : Nat) (p : Profile) (s : State) :
    validFlags (sendBits x n p s) = validFlags s :=
  validFlags_congr (forgetLines_sendBits x n p s)

@[simp] theorem validFlags_recvBits (n : Nat) (p : Profile) (s : State) :
    validFlags (recvBits n p s).2 = validFlags s :=
  validFlags_congr (forgetLines_recvBits n p s)

@[simp] theorem validFlags_probe (col : Color) (s : State) :
    validFlags (probe col s).2 = validFlags s :=
  validFlags_congr (forgetLines_probe col s)

@[simp] theorem validFlags_setImg (k : Nat) (v : Byte) (s : State) :
    validFlags (setImg k v s) = validFlags s := rfl

@[simp] theorem validFlags_recvImage (n k : Nat) (p : Profile) (s : State) :
    validFlags (recvImage n k p s) = validFlags s := by
  induction n generalizing k s with
  | zero => rfl
  | succ m ih => simp [recvImage, ih]

/-- R108: a block read leaves an image that no VERIFY has passed. -/
theorem readBlock_validFlags (col : Color) (p : Profile) (s : State) :
    validFlags (readBlock col p s) = (false, s.payValid) := by
  simp only [readBlock, validFlags_setDir, validFlags_setEn, validFlags_recvImage, validFlags_setImg,
    validFlags_recvBits, validFlags_sendBits, validFlags_pulseArm]
  rfl

@[simp] theorem probeLoop_validFlags (cs : List Color) (s : State) :
    validFlags (probeLoop cs s) = validFlags s := by
  induction cs generalizing s with
  | nil => simp [probeLoop]
  | cons col rest ih =>
    rw [probeLoop_cons]
    split
    · exact validFlags_probe col s
    · rw [ih, validFlags_probe]

/-- R99: DISCOVER voids the image and the payload at its start. -/
theorem discover_validFlags (s : State) : validFlags (discover s) = (false, false) := by
  have hstart : validFlags (discoverStart s) = (false, false) := rfl
  unfold discover
  split <;> simp [hstart]

/-- The clause of a sound state about the image. -/
def ImageSound (s : State) : Prop :=
  s.imgValid = true → s.found = true ∧ verifyImage s.cfg s.img s.color = true

/-- The clause of a sound state about the payload. -/
def PayloadSound (s : State) : Prop := s.payValid = true → s.found = true ∧ s.pay[2] = 0

/-- VERIFY passes the image of the chip it has found; the other writers of an image void it. -/
theorem completed_imageSound {i : Instr} {s : State} (hf : faultOf i s = none) (h : ImageSound s) :
    ImageSound (completed i s) := by
  have voided {t : State} (ht : t.imgValid = false) : ImageSound (advance t) :=
    fun hv => nomatch ht.symm.trans hv
  cases i with
  | discover => exact voided (Prod.mk.inj (discover_validFlags s)).1
  | readBlock p => exact voided (Prod.mk.inj (readBlock_validFlags s.color p s)).1
  | clearBuf => exact voided rfl
  | verify =>
    have hfound : s.found = true := by simpa [faultOf] using hf
    exact fun hv => ⟨hfound, hv⟩
  | _ => exact (completed_keeps ImageSound hf fun _ => rfl).mpr h

/-- BUILD_PAYLOAD clears the counter byte and runs only on a verified image, so with a chip; the other
writers of a payload void it. -/
theorem completed_payloadSound {i : Instr} {s : State} (hf : faultOf i s = none) (himg : ImageSound s)
    (h : PayloadSound s) : PayloadSound (completed i s) := by
  have voided {t : State} (ht : t.payValid = false) : PayloadSound (advance t) :=
    fun hv => nomatch ht.symm.trans hv
  cases i with
  | discover => exact voided (Prod.mk.inj (discover_validFlags s)).2
  | clearBuf => exact voided rfl
  | buildPayload =>
    have hvalid : s.imgValid = true := by simpa [faultOf] using hf
    exact fun _ => ⟨(himg hvalid).1, rfl⟩
  | _ => exact (completed_keeps PayloadSound hf fun _ => rfl).mpr h

/-! ### The outcome port (10_state.md R31, 60_exceptions.md R160) -/

/-- The last report is the one in the later events, where they hold one. -/
theorem lastReport_cons (e : Event) (rest : List Event) :
    lastReport (e :: rest) = (lastReport rest).or (lastReport [e]) := by
  cases h : lastReport rest <;> cases e <;> simp [lastReport, h]

theorem lastReport_append (h ev : List Event) :
    lastReport (h ++ ev) = (lastReport ev).or (lastReport h) := by
  induction h with
  | nil => exact (Option.or_none).symm
  | cons e rest ih => rw [List.cons_append, lastReport_cons, ih, lastReport_cons e rest, Option.or_assoc]

theorem lastReport_eq_none {ev : List Event} (h : ∀ k a, Event.report k a ∉ ev) :
    lastReport ev = none := by
  induction ev with
  | nil => rfl
  | cons e rest ih =>
    rw [lastReport_cons, ih fun k a hm => h k a (List.mem_cons_of_mem e hm)]
    cases e with
    | report k a => exact absurd List.mem_cons_self (h k a)
    | _ => rfl

/-- A posted outcome is the last report, and has a sub-code of R69 where it is an error. -/
theorem postOutcome_port {kind : Bit} {arg : BitVec 2} (s : State) (harg : kind = true → arg ≠ 0) :
    PortShowsLastReport (postOutcome kind arg s) := by
  refine ⟨?_, nofun, harg⟩
  rw [postOutcome, emit_hist, lastReport_append]
  rfl

/-- Events that are no report leave the port in step with the history. -/
theorem PortShowsLastReport.of_appendsNoReport {s t : State} (h : PortShowsLastReport s)
    (hev : AppendsNoReport s t)
    (hport : t.outValid = s.outValid ∧ t.outKind = s.outKind ∧ t.outArg = s.outArg) :
    PortShowsLastReport t := by
  obtain ⟨ev, ht, hnone⟩ := hev
  obtain ⟨hvalid, hkind, harg⟩ := hport
  unfold PortShowsLastReport
  rw [ht, lastReport_append, lastReport_eq_none hnone, Option.none_or, hvalid, hkind, harg]
  exact h

/-- Only REPORT writes the port, and only REPORT appends a report. -/
theorem completed_portShowsLastReport {i : Instr} {s : State} (hwf : i.wf = true)
    (hf : faultOf i s = none) (h : PortShowsLastReport s) : PortShowsLastReport (completed i s) := by
  have hexec := exec_of_faultOf_eq_none hf
  by_cases hr : i = .reportSuccess ∨ ∃ a, i = .reportError a
  · obtain rfl | ⟨a, rfl⟩ := hr
    · exact postOutcome_port s nofun
    · exact postOutcome_port s fun _ => bne_iff_ne.mp hwf
  · obtain ⟨hs, he⟩ := not_or.mp hr
    rw [not_exists] at he
    exact h.of_appendsNoReport ((exec_appendsNoReport s hs he).of_eq_next hexec) (exec_port hexec hs he)

/-! ### Soundness is kept (20_memory.md R57, 60_exceptions.md R142, R143, R146, R166) -/

/-- No operation that completes writes the fault registers. -/
theorem completed_faultRegsSound {i : Instr} {s : State} (hf : faultOf i s = none)
    (hrun : s.fault = false) (h : FaultRegsSound s) : FaultRegsSound (completed i s) := by
  have hregs : ((completed i s).fault, (completed i s).fcause, (completed i s).fupc) =
      (s.fault, s.fcause, s.fupc) :=
    completed_keeps (fun u => (u.fault, u.fcause, u.fupc)) hf fun _ => by cases i <;> rfl
  simp only [Prod.mk.injEq] at hregs
  obtain ⟨hfault, hcause, hupc⟩ := hregs
  refine ⟨fun _ => ?_, fun hstop => ?_⟩
  · rw [hcause, hupc]
    exact h.1 hrun
  · exact nomatch hrun.symm.trans (hfault.symm.trans hstop)

/-- WAIT_GO disables the trigger source only where PendingTrigger is set, and ARM enables it again. -/
theorem completed_disarmedMeansGo {i : Instr} {s : State} (hf : faultOf i s = none)
    (h : DisarmedMeansGo s) : DisarmedMeansGo (completed i s) := by
  cases i with
  | waitGo =>
    rw [completed]
    split
    next hgo => exact fun _ => hgo
    next => exact h
  | arm => exact nofun
  | _ => exact (completed_keeps DisarmedMeansGo hf fun _ => rfl).mpr h

/-- Every cause has a code of R143. -/
theorem causeCode_bounds (c : FaultCause) : 1 ≤ (causeCode c).toNat ∧ (causeCode c).toNat ≤ 5 := by
  cases c <;> decide

namespace StateSound

variable {s t : State}

/-- R142: taking a fault writes the fault registers alone. -/
theorem raiseFault (h : StateSound s) (c : FaultCause) : StateSound (raiseFault c s) where
  lines := h.lines
  clock := h.clock
  faultRegs := ⟨nofun, fun _ => ⟨(causeCode_bounds c).1, (causeCode_bounds c).2, rfl⟩⟩
  buffers := h.buffers
  port := h.port
  trigger := h.trigger
  rom := h.rom

/-- A well-formed operation that completes keeps every clause. -/
theorem completed {i : Instr} (h : StateSound s) (hwf : i.wf = true) (hrun : s.fault = false)
    (hf : faultOf i s = none) : StateSound (completed i s) := by
  obtain ⟨d, hlines⟩ := completed_linesSound hf ⟨rfl, h.lines, h.clock⟩
  obtain ⟨himg, hpay⟩ := h.buffers
  have hrom := (exec_asBuilt (exec_of_faultOf_eq_none hf)).1
  exact {
    lines := hlines.lines
    clock := hlines.clock
    faultRegs := completed_faultRegsSound hf hrun h.faultRegs
    buffers := ⟨completed_imageSound hf himg, completed_payloadSound hf himg hpay⟩
    port := completed_portShowsLastReport hwf hf h.port
    trigger := completed_disarmedMeansGo hf h.trigger
    rom := (congrArg Memory.wf hrom).trans h.rom }

/-- The engine runs only operations that decode, and none after a fault. -/
theorem exec {i : Instr} (h : StateSound s) (hwf : i.wf = true) (hrun : s.fault = false)
    (ht : exec i s = .next t) : StateSound t := by
  obtain ⟨c, -, rfl⟩ | ⟨hf, rfl⟩ := exec_cases ht
  · exact h.raiseFault c
  · exact h.completed hwf hrun hf

/-- R166: the reset tuple is sound, whatever the surroundings are, once the ROM is. -/
theorem applyReset (h : RomSound s) : StateSound (applyReset s) where
  lines := rfl
  clock := rfl
  faultRegs := ⟨fun _ => ⟨rfl, rfl⟩, nofun⟩
  buffers := ⟨nofun, nofun⟩
  port := ⟨rfl, fun _ => ⟨rfl, rfl⟩, nofun⟩
  trigger := nofun
  rom := h

end StateSound

/-- Every way a turn can go keeps the soundness of the state. -/
theorem Moves.sound {s t : State} (hm : Moves s t) (h : StateSound s) : StateSound t := by
  cases hm with
  | reset => exact .applyReset h.rom
  | ran _ hen hi ht =>
    have hrun : s.fault = false := by
      rw [engineEnabled, Bool.and_eq_true, Bool.not_eq_true'] at hen
      exact hen.1
    exact h.exec (encode_of_decode hi).2 hrun ht
  | illegal => exact h.raiseFault .illegalOp
  | latched => exact ⟨h.lines, h.clock, h.faultRegs, h.buffers, h.port, h.trigger, h.rom⟩
  | delivered => exact ⟨h.lines, h.clock, h.faultRegs, h.buffers, h.port, fun _ => rfl, h.rom⟩
  | passed => exact h
  | presentSet b => exact ⟨h.lines, h.clock, h.faultRegs, h.buffers, h.port, h.trigger, h.rom⟩
  | resetSet b =>
    cases b with
    | true => exact .applyReset (s := { s with resetIn := true }) h.rom
    | false => exact ⟨h.lines, h.clock, h.faultRegs, h.buffers, h.port, h.trigger, h.rom⟩

/-- Settles O54: a step is one turn, and using up its place in the agenda touches no clause. -/
theorem stepKeepsTheStateSound : Obligations.StepKeepsTheStateSound :=
  fun _ _ h ht => (step_moves ht).sound
    ⟨h.lines, h.clock, h.faultRegs, h.buffers, h.port, h.trigger, h.rom⟩

end Sys2Proof.Machine

namespace Sys2Proof.Machine

/-! ### The timing profile changes only the tags (40_bit_io.md R88) -/

section Untag

variable {p : Profile} {s : State}

@[simp] theorem untag_cfg (s : State) : (untag s).cfg = s.cfg := rfl
@[simp] theorem untag_color (s : State) : (untag s).color = s.color := rfl
@[simp] theorem untag_answers (s : State) : (untag s).answers = s.answers := rfl

theorem untag_advance (s : State) : untag (advance s) = advance (untag s) := rfl

@[simp] theorem untag_setImg (k : Nat) (v : Byte) (s : State) :
    untag (setImg k v s) = setImg k v (untag s) := rfl

/-- Events that carry no tag are appended as they are. -/
theorem untag_setEn (b : Bit) (s : State) : untag (setEn b s) = setEn b (untag s) := by
  have hev : (enEvents s.en b).map untagEvent = enEvents s.en b := by
    unfold enEvents
    split <;> rfl
  rw [setEn_eq, setEn_eq, untag, List.map_append, hev]
  rfl

theorem untag_setDir (d : Dir) (s : State) : untag (setDir d s) = setDir d (untag s) := by
  have hev : (dirEvents s.dir d).map untagEvent = dirEvents s.dir d := by
    unfold dirEvents
    split <;> rfl
  rw [setDir_eq, setDir_eq, untag, List.map_append, hev]
  rfl

theorem untag_pulseArm (s : State) : untag (pulseArm s) = pulseArm (untag s) := by
  have hev : (pulseEvents s.en).map untagEvent = pulseEvents s.en := by
    unfold pulseEvents
    split <;> rfl
  rw [pulseArm_eq, pulseArm_eq, untag, List.map_append, hev]
  rfl

/-- Without its tag a transmitted bit is one of the profile DR. -/
theorem untag_tx (v : Bit) (p : Profile) (s : State) : untag (tx v p s) = tx v .dr (untag s) := by
  rw [tx_eq, tx_eq, untag, List.map_append]
  rfl

theorem untag_sendBits {w : Nat} (x : BitVec w) (n : Nat) (p : Profile) (s : State) :
    untag (sendBits x n p s) = sendBits x n .dr (untag s) := by
  induction n generalizing s with
  | zero => rfl
  | succ i ih => rw [sendBits, sendBits, ih, untag_tx]

/-- R16: listed answers are the bits drawn, whatever the profile and the history are. -/
theorem drawBits_of_listed {n : Nat} (h : n ≤ s.answers.length) :
    drawBits n p s = s.answers.take n :=
  drawBits_of_answers (List.take_append_drop n s.answers).symm (List.length_take_of_le h)

/-- R16: so their tags may be forgotten. -/
theorem drawBits_untag {n : Nat} (p : Profile) (h : n ≤ s.answers.length) :
    drawBits n .dr (untag s) = drawBits n p s :=
  calc drawBits n .dr (untag s)
    _ = (untag s).answers.take n := drawBits_of_listed h
    _ = drawBits n p s := (drawBits_of_listed h).symm

theorem map_untagEvent_rxEvents (bs : List Bit) (p : Profile) :
    (rxEvents bs p).map untagEvent = rxEvents bs .dr := by
  rw [rxEvents, List.map_map]
  rfl

/-- Without their tags the received bits are those of the profile DR, where they are listed. -/
theorem untag_rxState {n : Nat} (h : n ≤ s.answers.length) :
    untag (rxState n p s) = rxState n .dr (untag s) := by
  cases n with
  | zero => rfl
  | succ k =>
    rw [rxState_succ_eq, rxState_succ_eq, drawBits_untag p h, untag, List.map_append, map_untagEvent_rxEvents]
    rfl

theorem untag_recvImage {n k : Nat} (h : 8 * n ≤ s.answers.length) :
    untag (recvImage n k p s) = recvImage n k .dr (untag s) := by
  rw [recvImage_eq, recvImage_eq, drawBits_untag p h, ← untag_rxState h]
  rfl

/-- A block read up to where the chip answers: the pulse and the identity nibble (R108). -/
def readStart (col : Color) (s : State) : State :=
  let s := setDir .output (pulseArm { s with imgValid := false })
  setDir .input (sendBits (idNibble s.cfg col) 4 .dr s)

/-- A block read is its start, the first nibble, the 31 bytes after it, and the lines put to rest. -/
theorem readBlock_eq (col : Color) (p : Profile) (s : State) :
    readBlock col p s = setDir .output (setEn false (recvImage 31 1 p
      (setImg 0 (idNibble (rxState 4 p (readStart col s)).cfg col ++
        bitsValue 4 (drawBits 4 p (readStart col s))) (rxState 4 p (readStart col s))))) := by
  simp only [readBlock, recvBits_eq, readStart]

theorem readStart_answers (col : Color) (s : State) : (readStart col s).answers = s.answers := by
  rw [readStart, setDir_eq, sendBits_succ_eq, setDir_eq, pulseArm_eq]

theorem untag_readStart (col : Color) (s : State) :
    untag (readStart col s) = readStart col (untag s) := by
  have hstart : untag { s with imgValid := false } = { untag s with imgValid := false } := rfl
  have harmed : untag (setDir .output (pulseArm { s with imgValid := false })) =
      setDir .output (pulseArm { untag s with imgValid := false }) := by
    rw [untag_setDir, untag_pulseArm, hstart]
  rw [readStart, readStart, untag_setDir, untag_sendBits, ← harmed, untag_cfg]

/-- R108: a block read receives 4 bits and then 31 bytes, 252 bits together. -/
theorem untag_readBlock {col : Color} (h : 252 ≤ s.answers.length) :
    untag (readBlock col p s) = readBlock col .dr (untag s) := by
  have hfirst : 4 ≤ (readStart col s).answers.length := by
    rw [readStart_answers]
    omega
  have hrest (v : Byte) : 8 * 31 ≤ (setImg 0 v (rxState 4 p (readStart col s))).answers.length := by
    rw [setImg_answers, rxState_answers, readStart_answers, List.length_drop]
    omega
  rw [readBlock_eq, readBlock_eq, untag_setDir, untag_setEn, untag_recvImage (hrest _),
    untag_setImg, ← untag_readStart, drawBits_untag p hfirst, ← untag_rxState hfirst, untag_cfg]

/-- An operation without its tags is the operation `j` of the profile DR, as soon as the two raise the same
fault and complete alike. -/
theorem mapNext_untag_exec {i j : Instr} (hfault : faultOf j (untag s) = faultOf i s)
    (hbody : untag (completed i s) = completed j (untag s)) :
    mapNext untag (exec i s) = exec j (untag s) := by
  rw [exec_eq, exec_eq, hfault]
  cases faultOf i s with
  | some c => rfl
  | none => exact congrArg Host.Outcome.next hbody

/-! The three operations with a profile operand, each run without its tags. -/

theorem mapNext_untag_sendBit (p : Profile) (v : Bit) (s : State) :
    mapNext untag (exec (.sendBit p v) s) = exec (.sendBit .dr v) (untag s) :=
  mapNext_untag_exec rfl (congrArg advance (untag_tx v p s))

theorem mapNext_untag_recvBit (p : Profile) (h : 1 ≤ s.answers.length) :
    mapNext untag (exec (.recvBit p) s) = exec (.recvBit .dr) (untag s) := by
  refine mapNext_untag_exec rfl ?_
  have hrx : untag (rx p s).2 = (rx .dr (untag s)).2 := untag_rxState (n := 1) h
  have hbit : (rx .dr (untag s)).1 = (rx p s).1 := List.head_eq_of_cons_eq (drawBits_untag (n := 1) p h)
  rw [completed, completed, untag_advance, hbit, ← hrx]
  rfl

theorem mapNext_untag_readBlock (p : Profile) (h : 252 ≤ s.answers.length) :
    mapNext untag (exec (.readBlock p) s) = exec (.readBlock .dr) (untag s) := by
  refine mapNext_untag_exec rfl ?_
  rw [completed, completed, untag_advance, untag_readBlock h, untag_color]

end Untag

/-- Settles O9: without its tags each of the three operations is that of the profile DR. -/
theorem profileChangesOnlyTheTimingTags : Obligations.ProfileChangesOnlyTheTimingTags :=
  fun p q v s => ⟨(mapNext_untag_sendBit p v s).trans (mapNext_untag_sendBit q v s).symm,
    fun h => (mapNext_untag_recvBit p h).trans (mapNext_untag_recvBit q h).symm,
    fun h => (mapNext_untag_readBlock p h).trans (mapNext_untag_readBlock q h).symm⟩

/-! ### The primitive operations (40_bit_io.md section 2) -/

/-- Settles O1: the body is `PulseArm`, whose events depend on enable. -/
theorem pulseArmRecordsThePulse : Obligations.PulseArmRecordsThePulse :=
  ⟨rfl, fun s => congrArg (fun t => Host.Outcome.next (advance t)) (pulseArm_eq s)⟩

/-- Settles O2: `SetEn(0)` has an event exactly where enable is 1. -/
theorem enOffDeassertsEnable : Obligations.EnOffDeassertsEnable := by
  refine ⟨rfl, fun s => ?_⟩
  have hev : enEvents s.en false = if s.en then [.en false] else [] := by cases s.en <;> rfl
  rw [← hev]
  exact congrArg (fun t => Host.Outcome.next (advance t)) (setEn_eq false s)

/-- Settles O3: the body is `SetDir`, which has no event for the current direction. -/
theorem setDirSetsTheDirection : Obligations.SetDirSetsTheDirection :=
  ⟨rfl, rfl, fun d s => congrArg (fun t => Host.Outcome.next (advance t)) (setDir_eq d s)⟩

/-- Settles O4: the one fault is that of an input line. -/
theorem sendBitTransmitsOrFaults : Obligations.SendBitTransmitsOrFaults := by
  intro p v s
  refine ⟨by cases p <;> cases v <;> rfl, fun hout => ?_, fun hin => ?_⟩
  · have hf : faultOf (.sendBit p v) s = none := by simp [faultOf, hout]
    exact exec_of_faultOf_eq_none hf
  · have hf : faultOf (.sendBit p v) s = some .directionError := by simp [faultOf, hin]
    exact exec_of_faultOf_eq_some hf

/-- Settles O5: the bit is the chip's answer, and the one fault is that of an output line. -/
theorem recvBitShiftsTheSampledBit : Obligations.RecvBitShiftsTheSampledBit := by
  intro p s
  refine ⟨by cases p <;> rfl, fun hin => ?_, fun hout => ?_⟩
  · have hf : faultOf (.recvBit p) s = none := by simp [faultOf, hin]
    refine ⟨chipAnswer s, drawBits_answeredBy 1 p s, ?_⟩
    rw [exec_of_faultOf_eq_none hf, List.drop_one]
    rfl
  · have hf : faultOf (.recvBit p) s = some .directionError := by simp [faultOf, hout]
    exact exec_of_faultOf_eq_some hf

/-- Settles O6: the body is `Settle`. -/
theorem settleOnlyAppendsItsEvent : Obligations.SettleOnlyAppendsItsEvent :=
  ⟨rfl, fun s => congrArg (fun t => Host.Outcome.next (advance t)) (settle_eq s)⟩

/-- Settles O7: no line procedure runs, so no event is recorded. -/
theorem senseCopiesPresent : Obligations.SenseCopiesPresent :=
  ⟨rfl, fun s => exec_of_faultOf_eq_none (i := .sense) (s := s) rfl⟩

end Sys2Proof.Machine

namespace Sys2Proof.Machine

/-! ### The value of received bits gives those bits back (20_memory.md R43) -/

/-- Bits shifted in at the low end leave the bits of the value before them above them. -/
theorem testBit_foldl_shift (bs : List Bit) (a i : Nat) :
    (bs.foldl (fun v b => 2 * v + b.toNat) a).testBit (bs.length + i) = a.testBit i := by
  induction bs generalizing a i with
  | nil => simp
  | cons b rest ih =>
    have hhalf : (2 * a + b.toNat) / 2 = a := by cases b <;> (simp; try omega)
    rw [List.foldl_cons, List.length_cons, Nat.add_assoc, Nat.add_comm 1 i, ih, Nat.testBit_succ, hhalf]

/-- Whatever was shifted in before them, the last bits received are the low bits of the value. -/
theorem msbBits_foldl_shift {w : Nat} {bs : List Bit} (h : bs.length ≤ w) (a : Nat) :
    msbBits (BitVec.ofNat w (bs.foldl (fun v b => 2 * v + b.toNat) a)) bs.length = bs := by
  induction bs generalizing a with
  | nil => rfl
  | cons b rest ih =>
    rw [List.length_cons] at h
    have hfirst := testBit_foldl_shift rest (2 * a + b.toNat) 0
    have hodd : (2 * a + b.toNat).testBit 0 = b := by cases b <;> simp [Nat.testBit_zero]
    rw [Nat.add_zero, hodd] at hfirst
    rw [List.foldl_cons, List.length_cons, msbBits, ih (by omega), BitVec.getLsbD_ofNat, hfirst,
      decide_eq_true (by omega), Bool.true_and]

/-- The converse of `bitsValue_msbBits`. -/
theorem msbBits_bitsValue {n : Nat} {bs : List Bit} (h : bs.length = n) :
    msbBits (bitsValue n bs) n = bs := by
  subst h
  exact msbBits_foldl_shift le_rfl 0

/-! ### One probe (41_discovery.md R98) -/

/-- A probe up to where the chip answers: the pulse and the identity nibble. -/
def probeStart (col : Color) (s : State) : State :=
  setDir .input (sendBits (idNibble s.cfg col) 4 .dr (setDir .output (pulseArm s)))

theorem probeStart_eq (col : Color) (s : State) :
    probeStart col s = { s with
      clk := true, dataOut := (idNibble s.cfg col).getLsbD 0, en := true, dir := .input,
      hist := s.hist ++ pulseEvents s.en ++ dirEvents s.dir .output
        ++ txEvents (idNibble s.cfg col) 4 .dr ++ [.dir .input] } := by
  rw [probeStart, setDir_eq, sendBits_succ_eq, setDir_eq, pulseArm_eq]
  rfl

/-- The response nibble of the chip when `col` is probed in `s`. -/
def response (col : Color) (s : State) : Nibble := bitsValue 4 (drawBits 4 .dr (probeStart col s))

/-- The bits of the response are the next listed answers, as far as those go. -/
theorem response_answeredBy (col : Color) (s : State) :
    AnsweredBy (msbBits (response col s) 4) s.answers := by
  have hlisted : (probeStart col s).answers = s.answers := by rw [probeStart_eq]
  rw [response, msbBits_bitsValue (drawBits_length ..), ← hlisted]
  exact drawBits_answeredBy 4 .dr (probeStart col s)

/-- The state after `col` was probed in `s` and answered `r`. -/
def afterProbe (col : Color) (r : Nibble) (s : State) : State :=
  { s with
    clk := true, dataOut := (idNibble s.cfg col).getLsbD 0, en := true, dir := .output,
    answers := s.answers.drop 4, choice := s.choice + 4,
    hist := s.hist ++ probeEvents s.cfg s.en s.dir col r }

/-- R98: a probe compares the response with ACK and keeps nothing else of it. -/
theorem probe_eq (col : Color) (s : State) :
    probe col s = (response col s == s.cfg.ack, afterProbe col (response col s) s) := by
  have hbits : msbBits (response col s) 4 = drawBits 4 .dr (probeStart col s) :=
    msbBits_bitsValue (drawBits_length ..)
  have hend : setDir .output (rxState 4 .dr (probeStart col s)) = afterProbe col (response col s) s := by
    rw [afterProbe, probeEvents, hbits, setDir_eq, rxState_succ_eq, probeStart_eq]
    simp [dirEvents]
  have hcfg : (afterProbe col (response col s) s).cfg = s.cfg := rfl
  calc probe col s
    _ = (response col s == (setDir .output (rxState 4 .dr (probeStart col s))).cfg.ack,
          setDir .output (rxState 4 .dr (probeStart col s))) := by
      simp only [probe, recvBits_eq, response, probeStart, setDir_eq, pulseArm_eq]
    _ = _ := by rw [hend, hcfg]

/-! ### The probes of a list of colors (R99, R101) -/

/-- The state after the listed colors were probed one after the other, color `c` answering `r.get c`. -/
def afterProbes (r : PerColor Nibble) : List Color → State → State
  | [], s => s
  | col :: rest, s => afterProbes r rest (afterProbe col (r.get col) s)

/-- At least one probe: the bit on the line is the last one sent. -/
theorem afterProbes_cons_eq (r : PerColor Nibble) (col : Color) (rest : List Color) (s : State) :
    afterProbes r (col :: rest) s = { s with
      clk := true, dataOut := (idNibble s.cfg (rest.getLastD col)).getLsbD 0, en := true, dir := .output,
      answers := s.answers.drop (4 * (col :: rest).length),
      choice := s.choice + 4 * (col :: rest).length,
      hist := s.hist ++ probesEvents s.cfg r s.en s.dir (col :: rest) } := by
  induction rest generalizing col s with
  | nil => simp [afterProbes, afterProbe, probesEvents]
  | cons next rest ih =>
    have hlength : 4 * (col :: next :: rest).length = 4 + 4 * (next :: rest).length :=
      Nat.add_comm _ 4
    rw [afterProbes, ih, List.getLastD_cons, hlength]
    simp only [afterProbe, List.drop_drop, Nat.add_assoc, List.append_assoc]
    rfl

/-- Where color `c` of the list is probed after those before it, from `s` on, it answers `r.get c`. -/
def RespondsWith (r : PerColor Nibble) : List Color → State → Prop
  | [], _ => True
  | col :: rest, s => response col s = r.get col ∧ RespondsWith r rest (afterProbe col (r.get col) s)

/-- The responses of the chip when the four colors are probed in order from `s` on (R16). -/
def chipResponses (s : State) : PerColor Nibble :=
  let afterA := afterProbe .a (response .a s) s
  let afterB := afterProbe .b (response .b afterA) afterA
  let afterC := afterProbe .c (response .c afterB) afterB
  { a := response .a s, b := response .b afterA, c := response .c afterB, d := response .d afterC }

theorem chipResponses_respondsWith (s : State) : RespondsWith (chipResponses s) probeOrder s :=
  ⟨rfl, rfl, rfl, rfl, trivial⟩

/-- Bits that agree with the listed answers, followed by bits that agree with what is left of those. -/
theorem AnsweredBy.append {bs cs listed : List Bit} (hb : AnsweredBy bs listed)
    (hc : AnsweredBy cs (listed.drop bs.length)) : AnsweredBy (bs ++ cs) listed := by
  unfold AnsweredBy at hb hc ⊢
  rw [List.length_drop] at hc
  rw [List.take_append, hb, hc, List.length_append, List.take_add]

/-- The bits of all the responses are the listed answers, as far as those go. -/
theorem RespondsWith.answeredBy {r : PerColor Nibble} {cs : List Color} {s : State}
    (h : RespondsWith r cs s) (ack : Nibble) :
    AnsweredBy ((probed ack r cs).1.flatMap fun col => msbBits (r.get col) 4) s.answers := by
  induction cs generalizing s with
  | nil => simp [probed, AnsweredBy]
  | cons col rest ih =>
    obtain ⟨hcol, hrest⟩ := h
    have hfirst : AnsweredBy (msbBits (r.get col) 4) s.answers := hcol ▸ response_answeredBy col s
    rw [probed]
    split
    · simpa using hfirst
    · refine hfirst.append ?_
      rw [msbBits_length]
      exact ih hrest

/-- What the loop of DISCOVER does with the color it found, or with none (R99, R103). -/
def endDiscovery : Option Color → State → State
  | some col, s => { s with color := col, found := true, statOk := true }
  | none, s => setEn false (setDir .output s)

/-- R101: the loop probes up to the first acknowledged color and takes that one. -/
theorem RespondsWith.probeLoop_eq {r : PerColor Nibble} {cs : List Color} {s : State}
    (h : RespondsWith r cs s) :
    probeLoop cs s =
      endDiscovery (probed s.cfg.ack r cs).2 (afterProbes r (probed s.cfg.ack r cs).1 s) := by
  induction cs generalizing s with
  | nil => rfl
  | cons col rest ih =>
    obtain ⟨hcol, hrest⟩ := h
    rw [probeLoop_cons, probe_eq, hcol, probed]
    by_cases hack : r.get col = s.cfg.ack
    · simp [hack, afterProbes, endDiscovery]
    · rw [if_neg (by simpa using hack), if_neg hack, ih hrest]
      rfl

/-! ### Which colors are probed (R99, R101) -/

/-- The first color is always probed. -/
theorem probed_probeOrder_ne_nil (ack : Nibble) (r : PerColor Nibble) :
    (probed ack r probeOrder).1 ≠ [] := by
  rw [probeOrder, probed]
  split <;> exact List.cons_ne_nil _ _

/-- The last color probed is the one found, and with none found the last of the list. -/
theorem probed_getLastD (ack : Nibble) (r : PerColor Nibble) (cs : List Color) (last : Color) :
    (probed ack r cs).1.getLastD last = (probed ack r cs).2.getD (cs.getLastD last) := by
  induction cs generalizing last with
  | nil => rfl
  | cons col rest ih =>
    rw [probed]
    split
    · rfl
    · simp only [List.getLastD_cons, ih]

/-- In the probe order the color found is the last one probed, and its code counts those before it (R10). -/
theorem probed_probeOrder_length (ack : Nibble) (r : PerColor Nibble) :
    (probed ack r probeOrder).1.length =
      (probed ack r probeOrder).2.elim 4 fun col => (colorCode col).toNat + 1 := by
  simp only [probed, probeOrder]
  split_ifs <;> rfl

/-! ### DISCOVER (R99 to R103) -/

/-- At least one color is probed, so the lines of `s` do not show in the end state (R102, R103). -/
theorem endDiscovery_afterProbes (r : PerColor Nibble) (s : State) {ps : List Color} (hps : ps ≠ [])
    (found : Option Color) :
    endDiscovery found (afterProbes r ps s) = { s with
      found := s.found || found.isSome
      statOk := s.statOk || found.isSome
      color := found.getD s.color
      en := found.isSome
      dir := .output
      clk := true
      dataOut := (idNibble s.cfg (ps.getLastD .d)).getLsbD 0
      hist := s.hist ++ probesEvents s.cfg r s.en s.dir ps
        ++ (if found.isSome then [] else [.en false])
      answers := s.answers.drop (4 * ps.length)
      choice := s.choice + 4 * ps.length } := by
  obtain ⟨col, rest, rfl⟩ := List.exists_cons_of_ne_nil hps
  rw [afterProbes_cons_eq, List.getLastD_cons]
  cases found with
  | some col => simp [endDiscovery]
  | none => simp [endDiscovery, setDir_eq, setEn_eq, dirEvents, enEvents]

/-- R100: with no chip present the lines go to rest, and only changes are recorded. -/
theorem discover_absent {s : State} (h : s.present = false) :
    discover s = { discoverStart s with
      dir := .output, en := false,
      hist := s.hist ++ dirEvents s.dir .output ++ enEvents s.en false } := by
  rw [discover, h, if_neg Bool.false_ne_true, setEn_eq, setDir_eq]
  rfl

theorem discover_present {s : State} (h : s.present = true) :
    discover s = probeLoop probeOrder (discoverStart s) := by
  rw [discover, h, if_pos rfl]

/-- Settles O10: the responses are those of the chip to the probes one after the other. -/
theorem discoverTakesTheFirstAcknowledgedColor :
    Obligations.DiscoverTakesTheFirstAcknowledgedColor := by
  refine ⟨rfl, fun s h => ?_, fun s h => ?_⟩
  · have hev : enEvents s.en false = if s.en then [.en false] else [] := by cases s.en <;> rfl
    rw [← hev]
    exact congrArg (fun t => Host.Outcome.next (advance t)) (discover_absent h)
  · have hr := chipResponses_respondsWith (discoverStart s)
    generalize chipResponses (discoverStart s) = r at hr
    have hne := probed_probeOrder_ne_nil s.cfg.ack r
    have hlast := probed_getLastD s.cfg.ack r probeOrder .d
    have hend := (discover_present h).trans (hr.probeLoop_eq.trans (endDiscovery_afterProbes r _ hne _))
    rw [hlast] at hend
    exact ⟨r, hr.answeredBy s.cfg.ack, congrArg (fun t => Host.Outcome.next (advance t)) hend⟩

/-! ### Event counts (R104) -/

/-- A probe records one event less where enable is asserted already. -/
theorem probeEvents_length (g : Config) (en : Bit) (col : Color) (r : Nibble) :
    (probeEvents g en .output col r).length = if en then 12 else 13 := by
  cases en <;> rfl

/-- With enable asserted every probe records twelve events. -/
theorem probesEvents_length_enabled (g : Config) (r : PerColor Nibble) (cs : List Color) :
    (probesEvents g r true .output cs).length = 12 * cs.length := by
  induction cs with
  | nil => rfl
  | cons col rest ih =>
    rw [probesEvents, List.length_append, probeEvents_length, if_pos rfl, ih, List.length_cons]
    omega

/-- From the lines at rest the first probe, and no other, records a thirteenth event. -/
theorem probesEvents_length_at_rest (g : Config) (r : PerColor Nibble) {cs : List Color} (h : cs ≠ []) :
    (probesEvents g r false .output cs).length = 12 * cs.length + 1 := by
  obtain ⟨col, rest, rfl⟩ := List.exists_cons_of_ne_nil h
  rw [probesEvents, List.length_append, probeEvents_length, if_neg Bool.false_ne_true,
    probesEvents_length_enabled, List.length_cons]
  omega

/-- Settles O11: each probe is counted, and the color found gives their number. -/
theorem discoverEventCounts : Obligations.DiscoverEventCounts := by
  intro s t hen hdir ht
  obtain ⟨-, habsent, hpresent⟩ := discoverTakesTheFirstAcknowledgedColor
  cases hp : s.present with
  | false =>
    cases (habsent s hp).symm.trans ht
    simp [hen, hdir]
  | true =>
    obtain ⟨r, -, hexec⟩ := hpresent s hp
    have hprobes := probesEvents_length_at_rest s.cfg r (probed_probeOrder_ne_nil s.cfg.ack r)
    rw [probed_probeOrder_length] at hprobes
    cases hexec.symm.trans ht
    simp only [List.length_append, hen, hdir, hprobes]
    cases (probed s.cfg.ack r probeOrder).2 with
    | some col =>
      simp only [Option.elim_some, Option.isSome_some, Option.getD_some, if_true, List.length_nil]
      omega
    | none => rfl

end Sys2Proof.Machine

namespace Sys2Proof.Machine

/-! ### The frame transmitter (42_frame.md R105) -/

/-- `SendBytes` of a buffer: the low bit of its last byte stays on the line. -/
theorem sendBytes_toList_eq {n : Nat} (xs : Vector Byte (n + 1)) (p : Profile) (s : State) :
    sendBytes xs.toList p s = { s with
      clk := true, dataOut := xs[n].getLsbD 0,
      hist := s.hist ++ xs.toList.flatMap (fun x => txEvents x 8 p) } := by
  have hlast : xs.toList = xs.pop.toList ++ [xs[n]] := by
    conv_lhs => rw [← Vector.push_pop_back xs, Vector.toList_push]
    simp [Vector.back_eq_getElem]
  rw [hlast, sendBytes_append_eq]

/-- R105: the bytes of the frame between a pulse and the deasserted enable, `FOUND`, `STAT_OK` and the
buffers unread. -/
theorem sendFrame_eq (f : FrameId) (s : State) :
    sendFrame f s = { s with
      en := false, dir := .output, clk := true, dataOut := (frameBytes s.cfg f)[9].getLsbD 0,
      hist := s.hist ++ pulseEvents s.en ++ dirEvents s.dir .output ++ frameEvents s.cfg f
        ++ [.en false] } := by
  simp only [sendFrame, setEn_eq, sendBytes_toList_eq, setDir_eq, pulseArm_eq]
  rfl

/-- SEND_FRAME has no fault to raise. -/
theorem exec_sendFrame (f : FrameId) (s : State) :
    exec (.sendFrame f) s = .next (advance (sendFrame f s)) :=
  exec_of_faultOf_eq_none rfl

/-- Settles O12: the frame is one of two, and its last byte is at offset 9. -/
theorem sendFrameSendsTheSelectedFrame : Obligations.SendFrameSendsTheSelectedFrame := by
  refine ⟨rfl, rfl, fun f s => ?_⟩
  rw [exec_sendFrame, sendFrame_eq]
  cases f <;> rfl

/-! ### Event counts (42_frame.md R107) -/

@[simp] theorem txEvents_length {w : Nat} (x : BitVec w) (n : Nat) (p : Profile) :
    (txEvents x n p).length = n := by
  rw [txEvents, List.length_map, msbBits_length]

/-- Ten bytes of eight bits. -/
theorem frameEvents_length (g : Config) (f : FrameId) : (frameEvents g f).length = 80 := by
  simp [frameEvents, List.length_flatMap]

/-- A pulse records one event less where enable is asserted already. -/
theorem pulseEvents_length (en : Bit) : (pulseEvents en).length = if en then 2 else 3 := by
  cases en <;> rfl

/-- The last bit of either default frame is 0. -/
theorem default_frame_last_bit (f : FrameId) : (frameBytes defaultConfig f)[9].getLsbD 0 = false := by
  cases f <;> rfl

/-- Settles O13: the pulse, the 80 bits and the deasserted enable; an output line records no change. -/
theorem sendFrameEventCounts : Obligations.SendFrameEventCounts := by
  intro f s hdir
  refine ⟨_, exec_sendFrame f s, ?_, fun hcfg => ?_⟩
  · rw [advance_hist, sendFrame_eq]
    simp only [List.length_append, pulseEvents_length, frameEvents_length, hdir, dirEvents]
    cases s.en <;> rfl
  · rw [advance_dataOut, sendFrame_eq, hcfg]
    exact default_frame_last_bit f

end Sys2Proof.Machine

namespace Sys2Proof.Machine

/-! ### The image of a read stream (20_memory.md R45, 43_block_read.md R108, R110) -/

/-- Byte `k + j` of a filled image is the `j`th byte of the stream; the others are left. -/
theorem fillImage_getElem (img : Vector Byte 32) (k n : Nat) (bs : List Bit) (i : Nat) (hi : i < 32) :
    (fillImage img k bs n)[i] =
      if k ≤ i ∧ i < k + n then bitsValue 8 ((bs.drop (8 * (i - k))).take 8) else img[i] := by
  induction n generalizing img k bs with
  | zero => rw [fillImage, if_neg (by omega)]
  | succ m ih =>
    rw [fillImage, ih]
    rcases lt_trichotomy i k with hlt | rfl | hgt
    · rw [if_neg (by omega), if_neg (by omega), Vector.getElem_setIfInBounds_ne hi hlt.ne']
    · rw [if_neg (by omega), if_pos (by omega), Vector.getElem_setIfInBounds_self, Nat.sub_self]
      rfl
    · rw [Vector.getElem_setIfInBounds_ne hi hgt.ne, List.drop_drop,
        show 8 + 8 * (i - (k + 1)) = 8 * (i - k) by omega]
      exact if_congr (by omega) rfl rfl

/-- The assembled first byte and the 31 bytes received after it are the whole image, whatever it held. -/
theorem fillImage_eq_imageOfBits (img : Vector Byte 32) (id : Nibble) (bs : List Bit) :
    fillImage (img.setIfInBounds 0 (id ++ bitsValue 4 (bs.take 4))) 1 (bs.drop 4) 31 =
      imageOfBits id bs := by
  ext i hi
  rw [fillImage_getElem, imageOfBits, Vector.getElem_ofFn]
  by_cases h : i = 0
  · subst h
    rw [if_neg (by omega), if_pos rfl, Vector.getElem_setIfInBounds_self]
  · rw [if_pos (by omega), if_neg h, List.drop_drop]

/-- A byte written is lost where the whole image is written after it. -/
theorem setImg_then_whole_image (k : Nat) (v : Byte) (img : Vector Byte 32) (s : State) :
    { setImg k v s with img := img } = { s with img := img } := rfl

/-- R108: the first nibble and the 31 bytes after it are one stream of 252 bits. -/
theorem recvImage_setImg_eq (id : Nibble) (p : Profile) (s : State) :
    recvImage 31 1 p (setImg 0 (id ++ bitsValue 4 (drawBits 4 p s)) (rxState 4 p s)) =
      { rxState 252 p s with img := imageOfBits id (drawBits 252 p s) } := by
  have hbits : drawBits 252 p s = drawBits 4 p s ++ drawBits (8 * 31) p (rxState 4 p s) :=
    drawBits_add 4 (8 * 31) p s
  have hstate : rxState 252 p s = rxState (8 * 31) p (rxState 4 p s) := rxState_add 4 (8 * 31) p s
  have hfirst : (drawBits 252 p s).take 4 = drawBits 4 p s := by
    rw [hbits, List.take_left' (drawBits_length ..)]
  have hrest : (drawBits 252 p s).drop 4 = drawBits (8 * 31) p (rxState 4 p s) := by
    rw [hbits, List.drop_left' (drawBits_length ..)]
  have hdrawn (v : Byte) : drawBits (8 * 31) p (setImg 0 v (rxState 4 p s)) =
      drawBits (8 * 31) p (rxState 4 p s) := drawBits_congr rfl rfl rfl
  rw [recvImage_eq, hdrawn, rxState_setImg, ← hstate, setImg_img, ← hrest, ← hfirst,
    fillImage_eq_imageOfBits]
  exact setImg_then_whole_image ..

/-! ### READ_BLOCK (R108 to R111) -/

/-- A block read voids the image and then addresses the chip as a probe does. -/
theorem readStart_eq_probeStart (col : Color) (s : State) :
    readStart col s = probeStart col { s with imgValid := false } := by
  have hcfg : (setDir .output (pulseArm { s with imgValid := false })).cfg = s.cfg := by
    rw [setDir_eq, pulseArm_eq]
  rw [readStart, probeStart, hcfg]

/-- The bits the chip answers a block read of `col` in `s` with. -/
def blockBits (col : Color) (p : Profile) (s : State) : List Bit := drawBits 252 p (readStart col s)

theorem blockBits_length (col : Color) (p : Profile) (s : State) : (blockBits col p s).length = 252 :=
  drawBits_length ..

theorem blockBits_answeredBy (col : Color) (p : Profile) (s : State) :
    AnsweredBy (blockBits col p s) s.answers := by
  rw [← readStart_answers col s]
  exact drawBits_answeredBy 252 p (readStart col s)

/-- The state after a block read of `col` in `s` that received `bs`. -/
def afterRead (col : Color) (p : Profile) (bs : List Bit) (s : State) : State :=
  { s with
    imgValid := false, img := imageOfBits (idNibble s.cfg col) bs,
    en := false, dir := .output, clk := true, dataOut := (idNibble s.cfg col).getLsbD 0,
    answers := s.answers.drop 252, choice := s.choice + 252,
    hist := s.hist ++ readEvents s.cfg s.en s.dir col p bs }

/-- R108, R111: the whole effect of a block read. -/
theorem readBlock_eq_afterRead (col : Color) (p : Profile) (s : State) :
    readBlock col p s = afterRead col p (blockBits col p s) s := by
  have hcfg : (rxState 4 p (readStart col s)).cfg = s.cfg := by
    rw [rxState_succ_eq, readStart_eq_probeStart, probeStart_eq]
  rw [readBlock_eq, hcfg, recvImage_setImg_eq, setDir_eq, setEn_eq, rxState_succ_eq, afterRead,
    readEvents, blockBits]
  simp [readStart_eq_probeStart, probeStart_eq, dirEvents, enEvents]

/-- The address bit left on the line. -/
theorem idNibble_getLsbD_zero (g : Config) (col : Color) :
    (idNibble g col).getLsbD 0 = (g.readAddr.get col).getLsbD 4 := by
  simp [idNibble, topNibble]

/-- Settles O14: the bits are those the chip answers, and the one fault is that of no chip. -/
theorem readBlockFillsTheImageOrFaults : Obligations.ReadBlockFillsTheImageOrFaults := by
  intro p s
  refine ⟨by cases p <;> rfl, fun hfound => ?_, fun hnone => ?_⟩
  · have hf : faultOf (.readBlock p) s = none := by simp [faultOf, hfound]
    refine ⟨blockBits s.color p s, blockBits_length .., blockBits_answeredBy .., ?_⟩
    rw [exec_of_faultOf_eq_none hf, completed, readBlock_eq_afterRead, afterRead, idNibble_getLsbD_zero]
    simp only [readEvents, List.append_assoc]
    rfl
  · have hf : faultOf (.readBlock p) s = some .noChip := by simp [faultOf, hnone]
    exact exec_of_faultOf_eq_some hf

/-- Settles O15: the pulse, the address nibble and the turned line, the stream, and the lines put to rest. -/
theorem readBlockEventCounts : Obligations.ReadBlockEventCounts := by
  intro p s hfound hdir
  obtain ⟨-, hread, -⟩ := readBlockFillsTheImageOrFaults p s
  obtain ⟨bs, hlength, -, hexec⟩ := hread hfound
  refine ⟨_, hexec, ?_⟩
  simp only [List.length_append, List.length_map, pulseEvents_length, txEvents_length, hlength, hdir,
    dirEvents]
  cases s.en <;> rfl

/-! ### The image invariants (R112) -/

/-- R112: both invariants, byte by byte. -/
theorem verifyImage_iff (g : Config) (img : Vector Byte 32) (col : Color) :
    verifyImage g img col = true ↔
      topNibble img[0] = idNibble g col ∧ img[0].extractLsb' 0 4 = g.ack ∧
      img[12] = (g.expectedId.get col).1 ∧ img[13] = (g.expectedId.get col).2 ∧
      img[29] = g.trailerSig[0] ∧ img[30] = g.trailerSig[1] ∧ img[31] = g.trailerSig[2] := by
  simp only [verifyImage, ackIdOk, identityOk, trailerOk, Bool.and_eq_true, beq_iff_eq, and_assoc]

/-- Settles O16: the bit written is `VerifyImage`, and the one fault is that of no chip. -/
theorem verifyWritesTheInvariantsOrFaults : Obligations.VerifyWritesTheInvariantsOrFaults := by
  refine ⟨rfl, fun s => ⟨fun hfound => ?_, fun hnone => ?_⟩⟩
  · have hf : faultOf .verify s = none := by simp [faultOf, hfound]
    exact ⟨_, verifyImage_iff s.cfg s.img s.color, exec_of_faultOf_eq_none hf⟩
  · have hf : faultOf .verify s = some .noChip := by simp [faultOf, hnone]
    exact exec_of_faultOf_eq_some hf

/-! ### The boundary of a verified image (R114) -/

/-- The offsets whose bytes the invariants fix. -/
def checkedOffsets : List (Fin 32) := [0, 12, 13, 29, 30, 31]

/-- A byte is its two nibbles. -/
theorem eq_iff_nibbles_eq (x y : Byte) :
    x = y ↔ topNibble x = topNibble y ∧ x.extractLsb' 0 4 = y.extractLsb' 0 4 := by
  refine ⟨fun h => h ▸ ⟨rfl, rfl⟩, fun ⟨hhigh, hlow⟩ => ?_⟩
  calc x
    _ = topNibble x ++ x.extractLsb' 0 4 := (append_extract (m := 4) (n := 4) x).symm
    _ = y := by rw [hhigh, hlow]; exact append_extract (m := 4) (n := 4) y

/-- Beside a verified image, another one is verified where it has the same checked bytes. -/
theorem verifyImage_iff_of_verified {g : Config} {img : Vector Byte 32} {col : Color}
    (h : verifyImage g img col = true) (img' : Vector Byte 32) :
    verifyImage g img' col = true ↔ ∀ k ∈ checkedOffsets, img'[k] = img[k] := by
  obtain ⟨hid, hack, h12, h13, h29, h30, h31⟩ := (verifyImage_iff g img col).mp h
  rw [verifyImage_iff, ← hid, ← hack, ← h12, ← h13, ← h29, ← h30, ← h31, ← and_assoc,
    ← eq_iff_nibbles_eq]
  simp [checkedOffsets]

/-- A changed byte shows at its own offset and at no other. -/
theorem set_agrees_iff {img : Vector Byte 32} {k : Fin 32} {x : Byte} (hx : x ≠ img[k])
    (ks : List (Fin 32)) : (∀ j ∈ ks, (img.set k x)[j] = img[j]) ↔ k ∉ ks := by
  refine ⟨fun h hk => hx ?_, fun hk j hj => ?_⟩
  · simpa using h k hk
  · have hne : k.val ≠ j.val := fun hkj => hk (Fin.ext hkj ▸ hj)
    exact Vector.getElem_set_ne _ _ hne

theorem not_mem_checkedOffsets_iff (k : Fin 32) :
    k ∉ checkedOffsets ↔ (1 ≤ k.val ∧ k.val ≤ 11) ∨ (14 ≤ k.val ∧ k.val ≤ 28) := by
  revert k
  decide

/-- Settles O17: the offsets of the two ranges are those the invariants do not check. -/
theorem verifiedImageBoundary : Obligations.VerifiedImageBoundary := by
  intro g img col h k x hx
  rw [Bool.eq_iff_iff, decide_eq_true_iff]
  calc verifyImage g (img.set k x) col = true
    _ ↔ ∀ j ∈ checkedOffsets, (img.set k x)[j] = img[j] := verifyImage_iff_of_verified h _
    _ ↔ k ∉ checkedOffsets := set_agrees_iff hx checkedOffsets
    _ ↔ _ := not_mem_checkedOffsets_iff k

end Sys2Proof.Machine

namespace Sys2Proof.Machine

/-! ### The payload (44_counter_write.md R116, R117) -/

/-- Settles O18: the one fault is that of no valid image. -/
theorem buildPayloadZeroesTheCounterOrFaults : Obligations.BuildPayloadZeroesTheCounterOrFaults := by
  refine ⟨rfl, fun s => ⟨fun hvalid => ?_, fun hnone => ?_⟩⟩
  · have hf : faultOf .buildPayload s = none := by simp [faultOf, hvalid]
    exact exec_of_faultOf_eq_none hf
  · have hf : faultOf .buildPayload s = some .noValidImage := by simp [faultOf, hnone]
    exact exec_of_faultOf_eq_some hf

/-! ### The faults of the two operations with a payload (R119, R121, 60_exceptions.md R152) -/

/-- The operations that need a chip and then a payload. -/
def NeedsPayload (i : Instr) : Prop := i = .writePayload ∨ i = .readbackCmp

theorem faultOf_of_needsPayload {i : Instr} (hi : NeedsPayload i) (s : State) :
    faultOf i s =
      if !s.found then some .noChip else if !s.payValid then some .noPayload else none := by
  rcases hi with rfl | rfl <;> rfl

/-- With a chip and a payload both complete. -/
theorem exec_of_payload {i : Instr} (hi : NeedsPayload i) {s : State} (hfound : s.found = true)
    (hpay : s.payValid = true) : exec i s = .next (completed i s) :=
  exec_of_faultOf_eq_none (by rw [faultOf_of_needsPayload hi, hfound, hpay]; rfl)

theorem exec_of_no_chip {i : Instr} (hi : NeedsPayload i) {s : State} (hnone : s.found = false) :
    exec i s = .next (raiseFault .noChip s) :=
  exec_of_faultOf_eq_some (by rw [faultOf_of_needsPayload hi, hnone]; rfl)

theorem exec_of_no_payload {i : Instr} (hi : NeedsPayload i) {s : State} (hfound : s.found = true)
    (hnone : s.payValid = false) : exec i s = .next (raiseFault .noPayload s) :=
  exec_of_faultOf_eq_some (by rw [faultOf_of_needsPayload hi, hfound, hnone]; rfl)

/-! ### WRITE_PAYLOAD (R118 to R120) -/

/-- A payload is its first three bytes and the last one, whose low bit stays on the line. -/
theorem payload_toList (pay : Vector Byte 4) :
    pay.toList = [pay[0], pay[1], pay[2]] ++ [pay[3]] := by
  refine List.ext_getElem (by simp) fun i hi _ => ?_
  rw [Vector.length_toList] at hi
  interval_cases i <;> rfl

/-- R120: a settle after each of the four bytes. -/
theorem payloadEvents_eq (pay : Vector Byte 4) :
    payloadEvents pay =
      (txEvents pay[0] 8 .wr ++ [.settle]) ++ (txEvents pay[1] 8 .wr ++ [.settle])
        ++ (txEvents pay[2] 8 .wr ++ [.settle]) ++ (txEvents pay[3] 8 .wr ++ [.settle]) := by
  rw [payloadEvents, payload_toList]
  simp

/-- The state after the payload of `s` was written to its chip. -/
def afterWrite (s : State) : State :=
  { s with
    en := false, dir := .output, clk := true, dataOut := s.pay[3].getLsbD 0,
    hist := s.hist ++ pulseEvents s.en ++ dirEvents s.dir .output
      ++ txEvents (writeNibble s.cfg s.color) 4 .wr ++ payloadEvents s.pay ++ [.en false] }

/-- R119: the write nibble and the payload, between a pulse and the deasserted enable. -/
theorem writePayload_eq_afterWrite (s : State) : writePayload s = afterWrite s := by
  rw [writePayload, afterWrite, payloadEvents, payload_toList]
  simp only [setEn_eq, writeBytes_append_eq, sendBits_succ_eq, setDir_eq, pulseArm_eq]
  rfl

/-- A write of a chip with a payload. -/
theorem exec_writePayload {s : State} (hfound : s.found = true) (hpay : s.payValid = true) :
    exec .writePayload s = .next (advance (afterWrite s)) := by
  rw [exec_of_payload (.inl rfl) hfound hpay, completed, writePayload_eq_afterWrite]

/-- Settles O19: the body with its four settles written out, and the two faults in their order. -/
theorem writePayloadSendsThePayloadOrFaults : Obligations.WritePayloadSendsThePayloadOrFaults := by
  have hi : NeedsPayload .writePayload := .inl rfl
  refine ⟨rfl, fun s => ⟨fun hfound hpay => ?_, exec_of_no_chip hi, exec_of_no_payload hi⟩⟩
  rw [exec_writePayload hfound hpay, afterWrite, payloadEvents_eq]
  simp only [List.append_assoc]
  rfl

/-! ### READBACK_CMP (R121) -/

/-- R121: both invariants, and the payload at offsets 1 to 4. -/
theorem readbackOk_iff (g : Config) (img : Vector Byte 32) (pay : Vector Byte 4) (col : Color) :
    readbackOk g img pay col = true ↔ verifyImage g img col = true ∧
      img[1] = pay[0] ∧ img[2] = pay[1] ∧ img[3] = pay[2] ∧ img[4] = pay[3] := by
  simp only [readbackOk, payloadMatches, Bool.and_eq_true, beq_iff_eq, and_assoc]

/-- Settles O20: the bit written is the comparison, and the two faults come in their order. -/
theorem readbackCmpComparesOrFaults : Obligations.ReadbackCmpComparesOrFaults := by
  have hi : NeedsPayload .readbackCmp := .inr rfl
  refine ⟨rfl, fun s => ⟨fun hfound hpay => ?_, exec_of_no_chip hi, exec_of_no_payload hi⟩⟩
  exact ⟨_, readbackOk_iff s.cfg s.img s.pay s.color, exec_of_payload hi hfound hpay⟩

/-! ### The image of a chip that acknowledges and answers 31 bytes (R45, R110) -/

/-- The bits of such a chip: ACK and the bytes `m`. -/
def blockStream (ack : Nibble) (m : Vector Byte 31) : List Bit :=
  msbBits ack 4 ++ m.toList.flatMap (fun x => msbBits x 8)

theorem blockStream_length (ack : Nibble) (m : Vector Byte 31) : (blockStream ack m).length = 252 := by
  simp [blockStream, List.length_flatMap]

/-- Every byte of a stream takes eight bits. -/
theorem byteBits_drop_take {xs : List Byte} {k : Nat} (hk : k < xs.length) :
    ((xs.flatMap fun x => msbBits x 8).drop (8 * k)).take 8 = msbBits xs[k] 8 := by
  induction xs generalizing k with
  | nil => exact absurd hk (Nat.not_lt_zero k)
  | cons x rest ih =>
    rw [List.flatMap_cons]
    cases k with
    | zero => exact List.take_left' (msbBits_length x 8)
    | succ j =>
      rw [Nat.mul_succ, Nat.add_comm, ← List.drop_drop, List.drop_left' (msbBits_length x 8)]
      exact ih (Nat.lt_of_succ_lt_succ hk)

/-- R110: the first byte is the address nibble with ACK. -/
theorem imageOfBits_blockStream_zero (id ack : Nibble) (m : Vector Byte 31) :
    (imageOfBits id (blockStream ack m))[0] = id ++ ack := by
  rw [imageOfBits, Vector.getElem_ofFn, if_pos rfl, blockStream, List.take_left' (msbBits_length ack 4),
    bitsValue_msbBits]

/-- The bytes after it are the answered ones. -/
theorem imageOfBits_blockStream_succ (id ack : Nibble) (m : Vector Byte 31) {k : Nat} (hk : k < 31) :
    (imageOfBits id (blockStream ack m))[k + 1] = m[k] := by
  have hlen : k < m.toList.length := by rwa [Vector.length_toList]
  rw [imageOfBits, Vector.getElem_ofFn, if_neg (Nat.succ_ne_zero k), blockStream, ← List.drop_drop,
    List.drop_left' (msbBits_length ack 4), Nat.add_sub_cancel, byteBits_drop_take hlen,
    bitsValue_msbBits, Vector.getElem_toList]

/-- The bytes that keep the id and trailer of the color make a verified image. -/
theorem verifyImage_blockStream {g : Config} {col : Color} {m : Vector Byte 31}
    (h12 : m[11] = (g.expectedId.get col).1) (h13 : m[12] = (g.expectedId.get col).2)
    (h29 : m[28] = g.trailerSig[0]) (h30 : m[29] = g.trailerSig[1]) (h31 : m[30] = g.trailerSig[2]) :
    verifyImage g (imageOfBits (idNibble g col) (blockStream g.ack m)) col = true := by
  have byte {k : Nat} (hk : k < 31) := imageOfBits_blockStream_succ (idNibble g col) g.ack m hk
  rw [verifyImage_iff, imageOfBits_blockStream_zero]
  refine ⟨?_, ?_, ?_, ?_, ?_, ?_, ?_⟩
  · exact BitVec.extractLsb'_append_eq_left
  · exact BitVec.extractLsb'_append_eq_right
  · exact (byte _).trans h12
  · exact (byte _).trans h13
  · exact (byte _).trans h29
  · exact (byte _).trans h30
  · exact (byte _).trans h31

/-- R121, R123: such an image keeps the invariants, so its payload bytes decide the comparison. -/
theorem readbackOk_blockStream_iff {g : Config} {col : Color} {m : Vector Byte 31}
    (hverified : verifyImage g (imageOfBits (idNibble g col) (blockStream g.ack m)) col = true)
    (pay : Vector Byte 4) :
    readbackOk g (imageOfBits (idNibble g col) (blockStream g.ack m)) pay col = true ↔
      m[0] = pay[0] ∧ m[1] = pay[1] ∧ m[2] = pay[2] ∧ m[3] = pay[3] := by
  have byte {k : Nat} (hk : k < 31) := imageOfBits_blockStream_succ (idNibble g col) g.ack m hk
  rw [readbackOk_iff, and_iff_right hverified, byte (k := 0), byte (k := 1), byte (k := 2), byte (k := 3)]

/-! ### A read-back after a write (R123) -/

/-- R16: a block read receives the listed answers where there are 252 of them. -/
theorem blockBits_of_answers {col : Color} {p : Profile} {s : State} {bs rest : List Bit}
    (hs : s.answers = bs ++ rest) (hn : bs.length = 252) : blockBits col p s = bs :=
  drawBits_of_answers ((readStart_answers col s).trans hs) hn

/-- A block read of a discovered chip whose 252 bits are listed. -/
theorem exec_readBlock_of_answers {p : Profile} {s : State} {bs rest : List Bit} (hfound : s.found = true)
    (hs : s.answers = bs ++ rest) (hn : bs.length = 252) :
    exec (.readBlock p) s = .next (advance (afterRead s.color p bs s)) := by
  have hf : faultOf (.readBlock p) s = none := by simp [faultOf, hfound]
  rw [exec_of_faultOf_eq_none hf, completed, readBlock_eq_afterRead, blockBits_of_answers hs hn]

/-- Settles O21: the write leaves the chip's answers, the read fills the image with them, and of what the
comparison checks only the payload bytes are left open. -/
theorem readbackPassesExactlyWhenThePayloadWasStored :
    Obligations.ReadbackPassesExactlyWhenThePayloadWasStored := by
  intro s m rest hfound hpay hanswers h12 h13 h29 h30 h31
  have hread := exec_readBlock_of_answers (p := .fast) (s := advance (afterWrite s)) hfound hanswers
    (blockStream_length s.cfg.ack m)
  refine ⟨_, _, _, exec_writePayload hfound hpay, hread, exec_of_payload (.inr rfl) hfound hpay,
    fun k => ?_, ?_⟩
  · exact imageOfBits_blockStream_succ (idNibble s.cfg s.color) s.cfg.ack m k.isLt
  · exact readbackOk_blockStream_iff (verifyImage_blockStream h12 h13 h29 h30 h31) s.pay

end Sys2Proof.Machine

namespace Sys2Proof.Machine

/-! ### The control and cycle operations (45_sequencer.md section 2) -/

/-- Settles O22: with `GO = 1` the check of WAIT_GO passes. -/
theorem waitGoPassesOnPendingTrigger : Obligations.WaitGoPassesOnPendingTrigger :=
  ⟨rfl, fun _ hgo => if_pos hgo⟩

/-- Settles O23: ARM checks nothing. -/
theorem armClearsAndEnablesTheTrigger : Obligations.ArmClearsAndEnablesTheTrigger :=
  ⟨rfl, fun _ => rfl⟩

/-- Settles O24: a success has the one fault of no chip, an error has none. -/
theorem reportPostsTheOutcomeOrFaults : Obligations.ReportPostsTheOutcomeOrFaults :=
  ⟨rfl, by decide, fun _ => ⟨fun hfound => if_pos hfound,
    fun hnone => if_neg (Bool.eq_false_iff.mp hnone), fun _ => rfl⟩⟩

/-- Settles O25: CLEAR_BUF checks nothing. -/
theorem clearBufZeroesTheBuffers : Obligations.ClearBufZeroesTheBuffers :=
  ⟨rfl, fun _ => rfl⟩

/-- A byte below another one, as the statements write a branch to a target. -/
theorem append_eq_or (x a : BitVec 8) : x ++ a = (x ++ 0#8) ||| a.setWidth 16 := by
  ext i hi
  simp only [BitVec.getElem_or, BitVec.getElem_append, BitVec.getElem_setWidth]
  by_cases h : i < 8
  · simp [h]
  · simp [h, BitVec.getLsbD_of_ge a i (by omega)]

/-- Settles O26: the target is the low byte of the word. -/
theorem jmpGoesToItsTarget : Obligations.JmpGoesToItsTarget :=
  fun a _ => ⟨(encode_jmp a).trans (append_eq_or 0x98#8 a), rfl⟩

/-- Settles O27: `STAT_OK` picks one of the two ways on. -/
theorem brfBranchesOnFailure : Obligations.BrfBranchesOnFailure :=
  fun a _ => ⟨(encode_brf a).trans (append_eq_or 0xA0#8 a),
    fun hfailed => if_neg (Bool.eq_false_iff.mp hfailed), fun hok => if_pos hok⟩

/-! ### The engine's turn (R124) -/

theorem runFetched_of_decode {s : State} {i : Instr} (hi : decode (fetch s) = .ok i) :
    runFetched s = exec i s := by
  rw [runFetched, hi]

/-- The engine holds at WAIT_GO with `GO = 0` and nowhere else. -/
theorem holds_of_decode {s : State} {i : Instr} (hi : decode (fetch s) = .ok i) :
    holds s = decide (i = .waitGo ∧ s.go = false) := by
  rw [holds, hi]
  cases i with
  | waitGo => cases s.go <;> rfl
  | _ => rfl

/-- R124: an engine that has not faulted and does not hold is enabled. -/
theorem engineEnabled_of_decode {s : State} {i : Instr} (hf : s.fault = false)
    (hi : decode (fetch s) = .ok i) (hwait : ¬(i = .waitGo ∧ s.go = false)) :
    engineEnabled s = true := by
  rw [engineEnabled, hf, holds_of_decode hi, decide_eq_false hwait]
  rfl

/-- With an empty agenda an engine that can step runs the operation it fetches. -/
theorem step_eq_exec {s : State} {i : Instr} (hwf : configWf s.cfg = true) (hr : s.resetIn = false)
    (hf : s.fault = false) (hi : decode (fetch s) = .ok i) (hwait : ¬(i = .waitGo ∧ s.go = false))
    (hx : s.agenda = []) : step s = exec i s :=
  (step_of_engineEnabled hwf hr (engineEnabled_of_decode hf hi hwait) hx).trans
    (runFetched_of_decode hi)

/-- Settles O39: the engine is enabled, and a scheduled turn changes nothing that says so. -/
theorem stepRunsTheDecodedOperation : Obligations.StepRunsTheDecodedOperation := by
  intro s i hwf hr hf hi hwait
  refine ⟨step_eq_exec hwf hr hf hi hwait, fun rest hx => ?_⟩
  have hi' : decode (fetch { s with agenda := rest }) = .ok i := hi
  exact (step_of_agenda hwf hx).trans
    ((takeTurn_engine (s := { s with agenda := rest }) hr (engineEnabled_of_decode hf hi' hwait)).trans
      (runFetched_of_decode hi'))

/-! ### The engine at WAIT_GO without a trigger (R125, log entries 7 and 9) -/

theorem engineEnabled_of_holds {s : State} (h : holds s = true) : engineEnabled s = false := by
  rw [engineEnabled, h, Bool.not_true, Bool.and_false]

theorem takeTurn_engine_passes {s : State} (hr : s.resetIn = false) (hen : engineEnabled s = false) :
    takeTurn .engine s = .next s := by
  simp [takeTurn, engineTurn, hr, hen]

theorem idleTurn_of_not_engineEnabled {s : State} (hr : s.resetIn = false)
    (hen : engineEnabled s = false) :
    idleTurn s = if deliverEnabled s then .next (deliverStep s)
      else if s.fault then .fault .engineHalted else .next s := by
  simp [idleTurn, hr, hen]

theorem step_of_empty_agenda {s : State} (hwf : configWf s.cfg = true) (hx : s.agenda = []) :
    step s = idleTurn s := by
  rw [step, if_pos hwf, hx]

/-- Settles O41: at WAIT_GO with `GO = 0` the engine is not enabled. -/
theorem holdingEngineWaits : Obligations.HoldingEngineWaits := by
  intro s hwf hr hf hi hgo
  have hhold : holds s = true := (holds_of_decode hi).trans (decide_eq_true ⟨rfl, hgo⟩)
  have hidle := idleTurn_of_not_engineEnabled hr (engineEnabled_of_holds hhold)
  refine ⟨if_neg (Bool.eq_false_iff.mp hgo), fun rest hx => ?_, fun hx htrig hpend => ?_,
    fun hx hoff => ?_⟩
  · have hhold' : holds { s with agenda := rest } = true := hhold
    exact (step_of_agenda hwf hx).trans (takeTurn_engine_passes hr (engineEnabled_of_holds hhold'))
  · have hdel : deliverEnabled s = true := by rw [deliverEnabled, htrig, hpend]; rfl
    rw [step_of_empty_agenda hwf hx, hidle, if_pos hdel]
    rfl
  · have hdel : ¬ deliverEnabled s = true := Bool.eq_false_iff.mp hoff
    rw [step_of_empty_agenda hwf hx, hidle, if_neg hdel, hf, if_neg Bool.false_ne_true]

/-! ### A placed word (log entry 10) -/

theorem decodeTableWord_eq_some {nbits w : Nat} {i : Instr} (h : decodeTableWord nbits w = some i) :
    decode (BitVec.ofNat 16 (w % 2 ^ nbits)) = .ok i := by
  unfold decodeTableWord at h
  split at h
  next j hj => rw [hj, Option.some.inj h]
  next => nomatch h

/-- The engine fetches the word placed for it. -/
theorem fetch_withFetchWord {s : State} (hrom : s.rom.wf = true) (nbits w : Nat) :
    fetch (s.withFetchWord nbits w) = BitVec.ofNat 16 (w % 2 ^ nbits) :=
  (read_write hrom).trans (if_pos rfl)

/-- Settles O53: the placed word is the one fetched, and the engine comes first. -/
theorem placedWordIsRunNext : Obligations.PlacedWordIsRunNext := by
  intro s w i hwf hf hrom hi hwait
  have hfetch : decode (fetch (s.withFetchWord 16 w)) = .ok i :=
    (congrArg decode (fetch_withFetchWord hrom 16 w)).trans (decodeTableWord_eq_some hi)
  exact step_eq_exec (s := s.withFetchWord 16 w) hwf rfl hf hfetch hwait rfl

end Sys2Proof.Machine

namespace Sys2Proof.Machine

/-! ### The cycle program, address by address (R131) -/

/-- The operation the cycle program holds at an address. -/
inductive CycleLine : BitVec 8 → Instr → Prop where
  | waitGo : CycleLine 0x00#8 .waitGo
  | sendHeader : CycleLine 0x01#8 (.sendFrame .header)
  | discover : CycleLine 0x02#8 .discover
  | ifNotFound : CycleLine 0x03#8 (.brf 0x0E#8)
  | read : CycleLine 0x04#8 (.readBlock .dr)
  | verify : CycleLine 0x05#8 .verify
  | ifReadInvalid : CycleLine 0x06#8 (.brf 0x10#8)
  | buildPayload : CycleLine 0x07#8 .buildPayload
  | writePayload : CycleLine 0x08#8 .writePayload
  | readBack : CycleLine 0x09#8 (.readBlock .fast)
  | readbackCmp : CycleLine 0x0A#8 .readbackCmp
  | ifWriteVerifyFailed : CycleLine 0x0B#8 (.brf 0x12#8)
  | reportSuccess : CycleLine 0x0C#8 .reportSuccess
  | successToTail : CycleLine 0x0D#8 (.jmp 0x13#8)
  | reportNotFound : CycleLine 0x0E#8 (.reportError 1#2)
  | notFoundToTail : CycleLine 0x0F#8 (.jmp 0x13#8)
  | reportReadInvalid : CycleLine 0x10#8 (.reportError 2#2)
  | readInvalidToTail : CycleLine 0x11#8 (.jmp 0x13#8)
  | reportWriteVerifyFailed : CycleLine 0x12#8 (.reportError 3#2)
  | sendTrailer : CycleLine 0x13#8 (.sendFrame .trailer)
  | clearBuf : CycleLine 0x14#8 .clearBuf
  | arm : CycleLine 0x15#8 .arm
  | toIdle : CycleLine 0x16#8 (.jmp 0x00#8)

/-- Each line is what the default contents of the ROM decode to. -/
theorem CycleLine.decode {a : BitVec 8} {i : Instr} (h : CycleLine a i) :
    decode (romDefault a.toNat) = .ok i := by
  cases h <;> rfl

/-- Every address up to 0x16 has its line. -/
theorem exists_cycleLine {a : BitVec 8} (ha : a.toNat ≤ 0x16) : ∃ i, CycleLine a i := by
  obtain ⟨k, rfl⟩ : ∃ k : Fin 23, a = BitVec.ofNat 8 k :=
    ⟨⟨a.toNat, by omega⟩, by simp⟩
  fin_cases k <;> exact ⟨_, by constructor⟩

/-- With nothing listed the ROM holds the cycle program. -/
theorem fetch_of_rom_nil {s : State} (h : s.rom = []) : fetch s = romDefault s.upc.toNat := by
  rw [fetch, fetchAt, h, Memory.read]

/-! ### What DISCOVER leaves behind (R99 to R103) -/

/-- The color a DISCOVER finds when color `c` answers `r.get c` (R100, R101). -/
def foundColor (g : Config) (present : Bit) (r : PerColor Nibble) : Option Color :=
  if present then (probed g.ack r probeOrder).2 else none

/-- The events of such a DISCOVER, entered with the lines at `en` and `dir` (R99, R100, R103). -/
def discoverEvents (g : Config) (present en : Bit) (dir : Dir) (r : PerColor Nibble) : List Event :=
  if present then
    probesEvents g r en dir (probed g.ack r probeOrder).1
      ++ (if (probed g.ack r probeOrder).2.isSome then [] else [.en false])
  else dirEvents dir .output ++ enEvents en false

/-- The registers, the history and the chip's answers in the state `t` after such a DISCOVER in `s`. -/
structure Discovered (r : PerColor Nibble) (s t : State) : Prop where
  found : t.found = (foundColor s.cfg s.present r).isSome
  statOk : t.statOk = (foundColor s.cfg s.present r).isSome
  color : t.color = (foundColor s.cfg s.present r).getD s.color
  en : t.en = (foundColor s.cfg s.present r).isSome
  dir : t.dir = .output
  hist : t.hist = s.hist ++ discoverEvents s.cfg s.present s.en s.dir r
  answers : s.present = true →
    t.answers = s.answers.drop (4 * (probed s.cfg.ack r probeOrder).1.length)

/-- With a chip and with none, from any lines: the responses are the chip's. -/
theorem discover_discovered (s : State) : ∃ r : PerColor Nibble,
    (s.present = true → AnsweredBy (discoverAnswers s.cfg.ack r) s.answers) ∧
      Discovered r s (completed .discover s) := by
  cases hp : s.present with
  | false =>
    refine ⟨⟨0, 0, 0, 0⟩, nofun, ?_⟩
    rw [completed, discover_absent hp]
    constructor <;> simp [foundColor, discoverEvents, discoverStart, hp]
  | true =>
    obtain ⟨-, -, hpresent⟩ := discoverTakesTheFirstAcknowledgedColor
    obtain ⟨r, hr, hexec⟩ := hpresent s hp
    refine ⟨r, fun _ => hr, ?_⟩
    rw [completed, Host.Outcome.next.inj hexec]
    constructor <;> simp [foundColor, discoverEvents, hp]

/-- DISCOVER leaves the direction at Output (R98, R100). -/
theorem discover_dir (s : State) : (discover s).dir = .output :=
  (discover_discovered s).elim fun _ h => h.2.dir

/-! ### The direction between two operations of the program -/

/-- Every operation but SET_DIR that starts on an output line ends on one. -/
theorem completed_dir_output {i : Instr} {s : State} (hi : ∀ d, i ≠ .setDir d)
    (hf : faultOf i s = none) (h : s.dir = .output) : (completed i s).dir = .output := by
  cases i with
  | setDir d => exact absurd rfl (hi d)
  | recvBit p => simp [faultOf, h] at hf
  | discover => exact discover_dir s
  | sendFrame f => rw [completed, sendFrame_eq]; rfl
  | readBlock p => rw [completed, readBlock_eq_afterRead]; rfl
  | writePayload => rw [completed, writePayload_eq_afterWrite]; rfl
  | pulseArm => rw [completed, pulseArm_eq]; exact h
  | enOff => rw [completed, setEn_eq]; exact h
  | waitGo | brf _ =>
    rw [completed]
    split <;> exact h
  | _ => exact h

/-! ### The cycle program never faults (R135, R137) -/

/-- No line of the program is a SET_DIR. -/
theorem CycleLine.ne_setDir {a : BitVec 8} {i : Instr} (h : CycleLine a i) (d : Dir) :
    i ≠ .setDir d := by
  cases h <;> nofun

section CyclePoint

variable {i : Instr} {s : State}

/-- R137: each operation of the program finds what it needs: a chip from 0x04 to 0x0D, a verified image at
0x07, a payload from 0x08 to 0x0A. -/
theorem CyclePoint.faultOf_eq_none (h : CyclePoint s) (hline : CycleLine s.upc i) :
    faultOf i s = none := by
  obtain ⟨-, -, hfound, -, himage, hpayload, -, -⟩ := h
  generalize s.upc = a at *
  cases hline with
  | read | verify | readBack | reportSuccess => simp [faultOf, hfound]
  | buildPayload => simp [faultOf, himage]
  | writePayload | readbackCmp => simp [faultOf, hfound, hpayload]
  | _ => rfl

/-- The flags a point of the program speaks of that few of its lines write. -/
def pointFlags (s : State) : Bit × Bit × Bit × Bit := (s.found, s.payValid, s.trigEn, s.go)

/-- R135, R137: every line of the program leads to a point again. The lines that set up a later address are
cases of their own; every other line keeps the flags that the addresses after it speak of. -/
theorem CyclePoint.completed (h : CyclePoint s) (hline : CycleLine s.upc i)
    (hgo : i = .waitGo → s.go = true) : CyclePoint (completed i s) := by
  have hf := h.faultOf_eq_none hline
  have hupc := (completed_writesOnlyItsOwn hf).upc_eq
  obtain ⟨-, hdiscovered, hfound, hverified, himage, hpayload, hdisarmed, hdir⟩ := h
  have hdir' := completed_dir_output hline.ne_setDir hf hdir
  unfold CyclePoint
  generalize ha : s.upc = a at *
  cases hline with
  | waitGo => simp [Machine.completed, ha, hgo, hdir]
  | discover =>
    obtain ⟨r, -, hd⟩ := discover_discovered s
    have hok := hd.statOk.trans hd.found.symm
    have htrigger := completed_keeps (fun u => (u.trigEn, u.go)) hf fun _ => rfl
    rw [Prod.mk.injEq] at htrigger
    simp [nextUpc, ha, hupc, hok, htrigger, hdir', hdisarmed]
  | verify | buildPayload | readbackCmp | clearBuf | arm =>
    simp [Machine.completed, ha, hfound, himage, hpayload, hdisarmed, hdir]
  | ifNotFound | ifReadInvalid | ifWriteVerifyFailed =>
    cases hok : s.statOk <;>
      simp [Machine.completed, ha, hok, hdiscovered, hfound, hverified, hdisarmed, hdir]
  | _ =>
    have hkept := completed_keeps pointFlags hf fun _ => rfl
    simp only [pointFlags, Prod.mk.injEq] at hkept
    simp [nextUpc, ha, hupc, hkept, hfound, hpayload, hdisarmed, hdir']

/-- The reset state is at the start of the program. -/
theorem cyclePoint_applyReset (s : State) : CyclePoint (applyReset s) := by
  simp [CyclePoint, applyReset, Arch.reset]

/-- A delivery sets `GO` and asks for nothing else. -/
theorem CyclePoint.deliverStep (h : CyclePoint s) : CyclePoint (deliverStep s) := by
  obtain ⟨hupc, hdiscovered, hfound, hverified, himage, hpayload, hdisarmed, hdir⟩ := h
  exact ⟨hupc, hdiscovered, hfound, hverified, himage, hpayload,
    fun ha => ⟨(hdisarmed ha).1, rfl⟩, hdir⟩

end CyclePoint

namespace CycleSound

variable {i : Instr} {s t : State}

theorem applyReset (h : CycleSound s) : CycleSound (applyReset s) :=
  ⟨h.rom, rfl, cyclePoint_applyReset s⟩

/-- The engine fetches a line of the program. -/
theorem exists_line (h : CycleSound s) : ∃ i, CycleLine s.upc i ∧ decode (fetch s) = .ok i := by
  obtain ⟨hupc, -⟩ := h.point
  obtain ⟨i, hline⟩ := exists_cycleLine hupc
  exact ⟨i, hline, fetch_of_rom_nil h.rom ▸ hline.decode⟩

/-- The engine runs the line it is at, which completes. -/
theorem exec (h : CycleSound s) (hen : engineEnabled s = true) (hi : decode (fetch s) = .ok i)
    (ht : exec i s = .next t) : CycleSound t := by
  obtain ⟨j, hline, hj⟩ := h.exists_line
  obtain rfl : j = i := Except.ok.inj (hj.symm.trans hi)
  have hgo : j = .waitGo → s.go = true := by
    rintro rfl
    simpa [engineEnabled, holds_of_decode hi, h.running] using hen
  have hf := h.point.faultOf_eq_none hline
  obtain rfl := Host.Outcome.next.inj ((exec_of_faultOf_eq_none hf).symm.trans ht)
  have hfault := completed_keeps (·.fault) hf fun _ => by cases j <;> rfl
  exact ⟨(exec_asBuilt ht).1.trans h.rom, hfault.trans h.running, h.point.completed hline hgo⟩

end CycleSound

/-- Every way a turn can go keeps the machine in the cycle program. -/
theorem Moves.cycleSound {s t : State} (hm : Moves s t) (h : CycleSound s) : CycleSound t := by
  cases hm with
  | reset => exact h.applyReset
  | ran _ hen hi ht => exact h.exec hen hi ht
  | illegal _ _ he =>
    obtain ⟨i, -, hi⟩ := h.exists_line
    exact nomatch hi.symm.trans he
  | latched => exact ⟨h.rom, h.running, h.point⟩
  | delivered => exact ⟨h.rom, h.running, h.point.deliverStep⟩
  | passed => exact h
  | presentSet b => exact ⟨h.rom, h.running, h.point⟩
  | resetSet b =>
    cases b with
    | true => exact ⟨h.rom, rfl, cyclePoint_applyReset _⟩
    | false => exact ⟨h.rom, h.running, h.point⟩

/-- Settles O56: a step is one turn, and using up its place in the agenda touches no clause. -/
theorem cycleProgramNeverFaults : Obligations.CycleProgramNeverFaults :=
  fun _ _ h ht => (step_moves ht).cycleSound ⟨h.rom, h.running, h.point⟩

end Sys2Proof.Machine

namespace Sys2Proof.Machine

/-! ### Steps of the engine along the cycle program (R124, R183) -/

/-- The engine is the next to step, at the address `a` of the cycle program, between two operations. -/
structure EngineAt (g : Config) (a : BitVec 8) (s : State) : Prop where
  wf : configWf g = true
  cfg : s.cfg = g
  rom : s.rom = []
  running : s.fault = false
  released : s.resetIn = false
  agenda : s.agenda = []
  upc : s.upc = a
  dir : s.dir = .output

namespace EngineAt

variable {g : Config} {a b : BitVec 8} {i : Instr} {s : State}

theorem upc_next (h : EngineAt g a s) : s.upc + 1 = a + 1 := congrArg (· + 1) h.upc

/-- One step runs the line the engine is at, where that raises no fault and is no holding WAIT_GO. -/
theorem step (h : EngineAt g a s) (hline : CycleLine a i) (hf : faultOf i s = none)
    (hb : nextUpc i s = b) (hgo : i = .waitGo → s.go = true := by nofun) :
    step s = .next (completed i s) ∧ EngineAt g b (completed i s) := by
  have hexec := exec_of_faultOf_eq_none hf
  have hfetch : decode (fetch s) = .ok i := by
    rw [fetch_of_rom_nil h.rom, h.upc]
    exact hline.decode
  have hwait : ¬(i = .waitGo ∧ s.go = false) := fun ⟨hi, hoff⟩ => nomatch (hgo hi).symm.trans hoff
  have hkept := completed_keeps (fun u => (u.cfg, u.rom, u.fault, u.resetIn, u.agenda)) hf
    fun _ => by cases i <;> rfl
  simp only [Prod.mk.injEq] at hkept
  obtain ⟨hcfg, hrom, hfault, hreset, hagenda⟩ := hkept
  refine ⟨?_, ?_⟩
  · exact (step_eq_exec (h.cfg ▸ h.wf) h.released h.running hfetch hwait h.agenda).trans hexec
  · exact {
      wf := h.wf
      cfg := hcfg.trans h.cfg
      rom := hrom.trans h.rom
      running := hfault.trans h.running
      released := hreset.trans h.released
      agenda := hagenda.trans h.agenda
      upc := (completed_writesOnlyItsOwn hf).upc_eq.trans hb
      dir := completed_dir_output hline.ne_setDir hf h.dir }

end EngineAt

/-- Steps, and the steps after them. -/
theorem run_add {m : Nat} {s t : State} (h : Host.Core.run core m s = .next t) (n : Nat) :
    Host.Core.run core (m + n) s = Host.Core.run core n t := by
  induction m generalizing s with
  | zero => cases h; rw [Nat.zero_add]
  | succ k ih =>
    rw [Nat.succ_add]
    simp only [Host.Core.run] at h ⊢
    cases hs : core.step s with
    | next u => rw [hs] at h; exact ih h
    | fault r => rw [hs] at h; nomatch h
    | refused r => rw [hs] at h; nomatch h

/-- `n` steps lead from `s` to `t` and record the events `ev`, none of them a report. -/
structure Leads (n : Nat) (s t : State) (ev : List Event) : Prop where
  run : Host.Core.run core n s = .next t
  hist : t.hist = s.hist ++ ev
  quiet : ∀ k a, Event.report k a ∉ ev

theorem Leads.trans {m n : Nat} {s t u : State} {ev ev' : List Event} (h : Leads m s t ev)
    (h' : Leads n t u ev') : Leads (m + n) s u (ev ++ ev') where
  run := (run_add h.run n).trans h'.run
  hist := by rw [h'.hist, h.hist, List.append_assoc]
  quiet k a := List.not_mem_append (h.quiet k a) (h'.quiet k a)

theorem run_one {s t : State} (h : step s = .next t) : Host.Core.run core 1 s = .next t := by
  have hcore : core.step s = .next t := h
  simp only [Host.Core.run, hcore]

/-- A step that runs a line other than a REPORT, with the events it records. -/
theorem EngineAt.leads {g : Config} {a b : BitVec 8} {i : Instr} {s t : State} {ev : List Event}
    (h : EngineAt g a s) (hline : CycleLine a i) (hf : faultOf i s = none) (hb : nextUpc i s = b)
    (ht : completed i s = t) (hist : t.hist = s.hist ++ ev)
    (hgo : i = .waitGo → s.go = true := by nofun) (hs : i ≠ .reportSuccess := by nofun)
    (he : ∀ e, i ≠ .reportError e := by nofun) : Leads 1 s t ev ∧ EngineAt g b t := by
  subst ht
  obtain ⟨hstep, hat⟩ := h.step hline hf hb hgo
  obtain ⟨ev', hist', hquiet⟩ := (exec_appendsNoReport s hs he).of_eq_next (exec_of_faultOf_eq_none hf)
  obtain rfl := List.append_cancel_left (hist'.symm.trans hist)
  exact ⟨⟨run_one hstep, hist, hquiet⟩, hat⟩

/-! ### The stages of a cycle (R131 to R136) -/

/-- BRF moves `upc` alone. -/
theorem completed_brf (a : BitVec 8) (s : State) :
    completed (.brf a) s = jumpTo (nextUpc (.brf a) s) s := by
  rw [completed, nextUpc]
  split <;> rfl

/-- A branch of the program: past it with `STAT_OK = 1`, at its target with `STAT_OK = 0` (R130). -/
theorem EngineAt.branch {g : Config} {a b : BitVec 8} {s : State} (h : EngineAt g a s)
    (hline : CycleLine a (.brf b)) :
    Leads 1 s (jumpTo (nextUpc (.brf b) s) s) [] ∧
      (s.statOk = true → EngineAt g (a + 1) (jumpTo (nextUpc (.brf b) s) s)) ∧
      (s.statOk = false → EngineAt g b (jumpTo (nextUpc (.brf b) s) s)) := by
  obtain ⟨hleads, hat⟩ := h.leads hline rfl rfl (completed_brf b s) (List.append_nil s.hist).symm
  refine ⟨hleads, fun hok => ?_, fun hfailed => ?_⟩
  · have hpassed : nextUpc (.brf b) s = a + 1 := (if_pos hok).trans h.upc_next
    rw [hpassed] at hat ⊢
    exact hat
  · have htaken : nextUpc (.brf b) s = b := if_neg (Bool.eq_false_iff.mp hfailed)
    rw [htaken] at hat ⊢
    exact hat

section Stages

variable {g : Config} {a : BitVec 8} {s : State} {col : Color} {en : Bit}

/-- The events of the header frame, sent from an output line with enable at `en` (R105). -/
def headerEvents (g : Config) (en : Bit) : List Event :=
  pulseEvents en ++ frameEvents g .header ++ [.en false]

/-- R135: from 0x00 with `GO = 1` the engine disables the trigger and sends the header. -/
theorem header_stage (h : EngineAt g 0x00 s) (hgo : s.go = true) :
    ∃ u, Leads 2 s u (headerEvents g s.en) ∧ EngineAt g 0x02 u ∧ u.en = false ∧
      u.present = s.present ∧ u.answers = s.answers := by
  obtain rfl := h.cfg
  obtain ⟨hleads₁, h₁⟩ := h.leads .waitGo rfl ((if_pos hgo).trans h.upc_next) (if_pos hgo)
    (List.append_nil _).symm fun _ => hgo
  obtain ⟨hleads₂, h₂⟩ := h₁.leads (ev := headerEvents s.cfg s.en) .sendHeader rfl h₁.upc_next
    (congrArg advance (sendFrame_eq .header _)) (by simp [headerEvents, h.dir, dirEvents])
  exact ⟨_, hleads₁.trans hleads₂, h₂, rfl, rfl, rfl⟩

/-- A chip of color `col` is discovered, and enable is at `en`. -/
structure HasChip (col : Color) (en : Bit) (s : State) : Prop where
  found : s.found = true
  color : s.color = col
  en : s.en = en

/-- R134: from 0x02 with the lines at rest the engine looks for a chip; with one it goes on at 0x04, and
else at 0x0E. -/
theorem discover_stage (h : EngineAt g 0x02 s) (hen : s.en = false) :
    ∃ (r : PerColor Nibble) (u : State),
      (s.present = true → AnsweredBy (discoverAnswers g.ack r) s.answers) ∧
      Leads 2 s u (discoverEvents g s.present false .output r) ∧
      (foundColor g s.present r = none → EngineAt g 0x0E u ∧ u.en = false) ∧
      (∀ col, foundColor g s.present r = some col → EngineAt g 0x04 u ∧ HasChip col true u) ∧
      (s.present = true →
        u.answers = s.answers.drop (4 * (probed g.ack r probeOrder).1.length)) := by
  obtain rfl := h.cfg
  obtain ⟨r, hr, hd⟩ := discover_discovered s
  obtain ⟨hleads₁, h₁⟩ := h.leads .discover rfl h.upc_next rfl hd.hist
  obtain ⟨hleads₂, hpassed, htaken⟩ := h₁.branch .ifNotFound
  have hleads := hleads₁.trans hleads₂
  rw [hen, h.dir, List.append_nil] at hleads
  obtain ⟨hfound, hok, hcolor, hen', -, -, hanswers⟩ := hd
  refine ⟨r, _, hr, hleads, fun hnone => ?_, fun col hcol => ?_, hanswers⟩
  · rw [hnone] at hok hen'
    exact ⟨htaken hok, hen'⟩
  · rw [hcol] at hfound hok hcolor hen'
    exact ⟨hpassed hok, hfound, hcolor, hen'⟩

/-- The line of a READ_BLOCK, with a chip. -/
theorem EngineAt.readBlock {p : Profile} (h : EngineAt g a s) (hline : CycleLine a (.readBlock p))
    (hchip : HasChip col en s) :
    Leads 1 s (advance (afterRead col p (blockBits col p s) s))
        (readEvents g en .output col p (blockBits col p s)) ∧
      EngineAt g (a + 1) (advance (afterRead col p (blockBits col p s) s)) := by
  obtain rfl := h.cfg
  obtain ⟨hfound, rfl, rfl⟩ := hchip
  exact h.leads hline (by simp [faultOf, hfound]) h.upc_next
    (congrArg advance (readBlock_eq_afterRead s.color p s)) (h.dir ▸ rfl)

/-- The events of a write of the payload `pay`, from the lines at rest (R119, R120). -/
def writeEvents (g : Config) (col : Color) (pay : Vector Byte 4) : List Event :=
  pulseEvents false ++ txEvents (writeNibble g col) 4 .wr ++ payloadEvents pay ++ [.en false]

/-- The line of WRITE_PAYLOAD, with a chip and a payload. -/
theorem EngineAt.writePayload (h : EngineAt g 0x08 s) (hchip : HasChip col false s)
    (hvalid : s.payValid = true) :
    Leads 1 s (advance (afterWrite s)) (writeEvents g col s.pay) ∧
      EngineAt g 0x09 (advance (afterWrite s)) := by
  obtain rfl := h.cfg
  obtain ⟨hfound, rfl, hen⟩ := hchip
  refine h.leads .writePayload (by simp [faultOf, hfound, hvalid]) h.upc_next
    (congrArg advance (writePayload_eq_afterWrite s)) ?_
  simp [afterWrite, writeEvents, hen, h.dir, dirEvents]

/-- R134: from 0x04 the engine reads the image of its chip; one that keeps the invariants lets it go on at
0x07, and else it goes on at 0x10. -/
theorem read_stage (h : EngineAt g 0x04 s) (hchip : HasChip col en s) :
    ∃ (bs : List Bit) (u : State),
      bs.length = 252 ∧ AnsweredBy bs s.answers ∧ u.answers = s.answers.drop 252 ∧
      Leads 3 s u (readEvents g en .output col .dr bs) ∧ HasChip col false u ∧
      u.img = imageOfBits (idNibble g col) bs ∧
      (verifyImage g u.img col = true → EngineAt g 0x07 u ∧ u.imgValid = true) ∧
      (verifyImage g u.img col = false → EngineAt g 0x10 u) := by
  obtain ⟨hleads₁, h₁⟩ := h.readBlock .read hchip
  obtain ⟨hfound, rfl, -⟩ := hchip
  obtain ⟨hleads₂, h₂⟩ := h₁.leads .verify (by simp [faultOf, hfound, afterRead]) h₁.upc_next rfl
    (List.append_nil _).symm
  obtain ⟨hleads₃, hpassed, htaken⟩ := h₂.branch .ifReadInvalid
  have hleads := (hleads₁.trans hleads₂).trans hleads₃
  rw [List.append_nil, List.append_nil] at hleads
  obtain rfl := h.cfg
  exact ⟨_, _, blockBits_length .., blockBits_answeredBy .., rfl, hleads, ⟨hfound, rfl, rfl⟩, rfl,
    fun hok => ⟨hpassed hok, hok⟩, htaken⟩

/-- R134: from 0x07 the engine writes the payload and reads the chip back; where the comparison passes it
goes on at 0x0C, and else at 0x12. -/
theorem write_stage (h : EngineAt g 0x07 s) (hchip : HasChip col false s) (hvalid : s.imgValid = true) :
    ∃ (bs : List Bit) (u : State),
      bs.length = 252 ∧ AnsweredBy bs s.answers ∧
      Leads 5 s u (writeEvents g col (buildPayload s.img) ++ readEvents g false .output col .fast bs) ∧
      HasChip col false u ∧
      (readbackOk g (imageOfBits (idNibble g col) bs) (buildPayload s.img) col = true →
        EngineAt g 0x0C u) ∧
      (readbackOk g (imageOfBits (idNibble g col) bs) (buildPayload s.img) col = false →
        EngineAt g 0x12 u) := by
  obtain ⟨hfound, rfl, hen⟩ := hchip
  obtain ⟨hleads₁, h₁⟩ := h.leads .buildPayload (by simp [faultOf, hvalid]) h.upc_next rfl
    (List.append_nil _).symm
  obtain ⟨hleads₂, h₂⟩ := h₁.writePayload ⟨hfound, rfl, hen⟩ rfl
  obtain ⟨hleads₃, h₃⟩ := h₂.readBlock .readBack ⟨hfound, rfl, rfl⟩
  obtain ⟨hleads₄, h₄⟩ := h₃.leads .readbackCmp
    (by simp [faultOf, completed, hfound, afterRead, afterWrite]) h₃.upc_next rfl
    (List.append_nil _).symm
  obtain ⟨hleads₅, hpassed, htaken⟩ := h₄.branch .ifWriteVerifyFailed
  have hleads := (((hleads₁.trans hleads₂).trans hleads₃).trans hleads₄).trans hleads₅
  rw [List.append_nil, List.append_nil, List.nil_append] at hleads
  obtain rfl := h.cfg
  refine ⟨_, _, ?_, ?_, hleads, ⟨hfound, rfl, rfl⟩, hpassed, htaken⟩
  · exact blockBits_length ..
  · exact blockBits_answeredBy ..

end Stages

end Sys2Proof.Machine

namespace Sys2Proof.Machine

/-! ### The report and the tail of a cycle (R134, R136, 60_exceptions.md R141) -/

/-- Idle with the trigger armed, the lines at rest and the buffers clear (R136). -/
structure AtIdle (t : State) : Prop where
  upc : t.upc = 0x00
  trigEn : t.trigEn = true
  edgePend : t.edgePend = false
  go : t.go = false
  en : t.en = false
  dir : t.dir = .output
  img : t.img = Vector.replicate 32 0x00
  pay : t.pay = Vector.replicate 4 0x00
  imgValid : t.imgValid = false
  payValid : t.payValid = false

/-- What the tail of a cycle leaves: the chip found and the outcome port. -/
def tailKept (s : State) : (Bit × Color) × Bit × Bit × BitVec 2 :=
  ((s.found, s.color), s.outValid, s.outKind, s.outArg)

/-- The events of the trailer frame, sent from the lines at rest (R105). -/
def trailerEvents (g : Config) : List Event :=
  [.en true, .en false, .en true] ++ frameEvents g .trailer ++ [.en false]

/-- R136: from 0x13 the engine sends the trailer, clears the buffers, arms the trigger and is back at 0x00. -/
theorem tail_stage {g : Config} {s : State} (h : EngineAt g 0x13 s) (hen : s.en = false) :
    ∃ t, Leads 4 s t (trailerEvents g) ∧ AtIdle t ∧ tailKept t = tailKept s := by
  obtain rfl := h.cfg
  obtain ⟨hleads₁, h₁⟩ := h.leads (ev := trailerEvents s.cfg) .sendTrailer rfl h.upc_next
    (congrArg advance (sendFrame_eq .trailer s))
    (by simp [trailerEvents, hen, h.dir, dirEvents, pulseEvents])
  obtain ⟨hleads₂, h₂⟩ := h₁.leads .clearBuf rfl h₁.upc_next rfl (List.append_nil _).symm
  obtain ⟨hleads₃, h₃⟩ := h₂.leads .arm rfl h₂.upc_next rfl (List.append_nil _).symm
  obtain ⟨hleads₄, h₄⟩ := h₃.leads .toIdle rfl rfl rfl (List.append_nil _).symm
  have hleads := ((hleads₁.trans hleads₂).trans hleads₃).trans hleads₄
  simp only [List.append_nil] at hleads
  exact ⟨_, hleads, ⟨rfl, rfl, rfl, rfl, rfl, rfl, rfl, rfl, rfl, rfl⟩, rfl⟩

/-- A cycle of `n` steps from `s` to `t`: the events `before`, which hold no report, then the report of `kind`
and `arg`, then the trailer. -/
structure CycleDone (g : Config) (n : Nat) (s t : State) (before : List Event) (kind : Bit)
    (arg : BitVec 2) : Prop where
  run : Host.Core.run core n s = .next t
  idle : AtIdle t
  outValid : t.outValid = true
  outKind : t.outKind = kind
  outArg : t.outArg = arg
  hist : t.hist = s.hist ++ before ++ [.report kind arg] ++ trailerEvents g
  quiet : ∀ k a, Event.report k a ∉ before

/-- The REPORT lines of the program: the address, the outcome posted in `s`, and the steps from there to the
tail. The last error's line is the one before the tail; the others have a JMP to it. -/
inductive ReportLine (s : State) : BitVec 8 → Bit → BitVec 2 → Nat → Prop where
  | success (hfound : s.found = true) : ReportLine s 0x0C#8 false (colorCode s.color) 2
  | notFound : ReportLine s 0x0E#8 true 1#2 2
  | readInvalid : ReportLine s 0x10#8 true 2#2 2
  | writeVerifyFailed : ReportLine s 0x12#8 true 3#2 1

theorem run_two {s t u : State} (h : step s = .next t) (h' : step t = .next u) :
    Host.Core.run core 2 s = .next u :=
  (run_add (run_one h) 1).trans (run_one h')

/-- Once its outcome is posted a cycle comes to the tail. -/
theorem ReportLine.run_to_tail {g : Config} {a : BitVec 8} {m : Nat} {kind : Bit} {arg : BitVec 2}
    {s : State} (hline : ReportLine s a kind arg m) (h : EngineAt g a s) :
    Host.Core.run core m s = .next (jumpTo 0x13 (postOutcome kind arg s)) ∧
      EngineAt g 0x13 (jumpTo 0x13 (postOutcome kind arg s)) := by
  cases hline with
  | success hfound =>
    obtain ⟨hpost, h'⟩ := h.step .reportSuccess (by simp [faultOf, hfound]) h.upc_next
    obtain ⟨hjump, hat⟩ := h'.step .successToTail rfl rfl
    exact ⟨run_two hpost hjump, hat⟩
  | notFound =>
    obtain ⟨hpost, h'⟩ := h.step .reportNotFound rfl h.upc_next
    obtain ⟨hjump, hat⟩ := h'.step .notFoundToTail rfl rfl
    exact ⟨run_two hpost hjump, hat⟩
  | readInvalid =>
    obtain ⟨hpost, h'⟩ := h.step .reportReadInvalid rfl h.upc_next
    obtain ⟨hjump, hat⟩ := h'.step .readInvalidToTail rfl rfl
    exact ⟨run_two hpost hjump, hat⟩
  | writeVerifyFailed =>
    obtain ⟨hpost, hat⟩ := h.step .reportWriteVerifyFailed rfl h.upc_next
    have hpast : completed (.reportError 3#2) s = jumpTo (s.upc + 1) (postOutcome true 3#2 s) := rfl
    rw [hpast, h.upc_next] at hpost hat
    exact ⟨run_one hpost, hat⟩

/-- The end of a cycle, from the REPORT that its stages have led to. -/
theorem cycle_end {g : Config} {a : BitVec 8} {m n : Nat} {kind : Bit} {arg : BitVec 2} {s u : State}
    {before : List Event} (hleads : Leads n s u before) (h : EngineAt g a u) (hen : u.en = false)
    (hline : ReportLine u a kind arg m) :
    ∃ t, CycleDone g (n + m + 4) s t before kind arg ∧ t.found = u.found ∧ t.color = u.color := by
  obtain ⟨hrun, hat⟩ := hline.run_to_tail h
  obtain ⟨t, htail, hidle, hkept⟩ := tail_stage hat hen
  simp only [tailKept, Prod.mk.injEq] at hkept
  obtain ⟨⟨hfound, hcolor⟩, hvalid, hkind, harg⟩ := hkept
  refine ⟨t, ?_, hfound, hcolor⟩
  exact {
    run := (run_add ((run_add hleads.run m).trans hrun) 4).trans htail.run
    idle := hidle
    outValid := hvalid
    outKind := hkind
    outArg := harg
    hist := by
      rw [htail.hist, ← hleads.hist]
      rfl
    quiet := hleads.quiet }

/-! ### Before a cycle writes (R141) -/

section NoWrite

variable (v : Bit)

@[simp] theorem write_not_mem_txEvents {w : Nat} (x : BitVec w) (n : Nat) :
    Event.tx v .wr ∉ txEvents x n .dr := by
  simp [txEvents]

@[simp] theorem write_not_mem_rxEvents (bs : List Bit) (p : Profile) :
    Event.tx v .wr ∉ rxEvents bs p := by
  simp [rxEvents]

@[simp] theorem write_not_mem_pulseEvents (en : Bit) : Event.tx v .wr ∉ pulseEvents en := by
  cases en <;> simp [pulseEvents]

@[simp] theorem write_not_mem_dirEvents (d e : Dir) : Event.tx v .wr ∉ dirEvents d e := by
  unfold dirEvents
  split <;> simp

@[simp] theorem write_not_mem_enEvents (b c : Bit) : Event.tx v .wr ∉ enEvents b c := by
  unfold enEvents
  split <;> simp

@[simp] theorem write_not_mem_headerEvents (g : Config) (en : Bit) :
    Event.tx v .wr ∉ headerEvents g en := by
  simp [headerEvents, frameEvents]

@[simp] theorem write_not_mem_probesEvents (g : Config) (r : PerColor Nibble) (en : Bit) (dir : Dir)
    (cs : List Color) : Event.tx v .wr ∉ probesEvents g r en dir cs := by
  induction cs generalizing en dir with
  | nil => simp [probesEvents]
  | cons col rest ih => simp [probesEvents, probeEvents, ih]

@[simp] theorem write_not_mem_discoverEvents (g : Config) (present en : Bit) (dir : Dir)
    (r : PerColor Nibble) : Event.tx v .wr ∉ discoverEvents g present en dir r := by
  unfold discoverEvents
  split_ifs <;> simp

@[simp] theorem write_not_mem_readEvents (g : Config) (en : Bit) (dir : Dir) (col : Color) (p : Profile)
    (bs : List Bit) : Event.tx v .wr ∉ readEvents g en dir col p bs := by
  simp [readEvents]

end NoWrite

/-! ### Every cycle reports once (R133, R134, R136, R141, R183) -/

/-- A triggered state of the cycle program is at 0x00 of it. -/
theorem CycleSound.engineAt {s : State} (h : CycleSound s) (hwf : configWf s.cfg = true)
    (hupc : s.upc = 0x00) (hr : s.resetIn = false) (hx : s.agenda = []) : EngineAt s.cfg 0x00 s := by
  obtain ⟨-, -, -, -, -, -, -, hdir⟩ := h.point
  exact ⟨hwf, rfl, h.rom, h.running, hr, hx, hupc, hdir⟩

/-- The four ways a cycle goes. -/
theorem exists_cycleDone {g : Config} {s : State} (h : EngineAt g 0x00 s) (hgo : s.go = true) :
    ∃ (n : Nat) (t : State) (before : List Event) (kind : Bit) (arg : BitVec 2),
      n ≤ 18 ∧ CycleDone g n s t before kind arg ∧
      (kind = false → t.found = true ∧ arg = colorCode t.color) ∧
      (kind = true → arg = 1 ∨ arg = 2 ∨ arg = 3) ∧
      (kind = true → arg ≠ 3 → ∀ v, Event.tx v .wr ∉ before) := by
  obtain ⟨sent, hheader, hatSent, henSent, -, -⟩ := header_stage h hgo
  obtain ⟨r, u, -, hdiscover, hnone, hsome, -⟩ := discover_stage hatSent henSent
  have hleads := hheader.trans hdiscover
  cases hcolor : foundColor g sent.present r with
  | none =>
    obtain ⟨hat, hen⟩ := hnone hcolor
    obtain ⟨t, hdone, -⟩ := cycle_end hleads hat hen .notFound
    exact ⟨_, t, _, _, _, by decide, hdone, nofun, by simp, by simp⟩
  | some col =>
    obtain ⟨hat, hchip⟩ := hsome col hcolor
    obtain ⟨bs, v, -, -, -, hread, hchipRead, -, hpassed, htaken⟩ := read_stage hat hchip
    have hleadsRead := hleads.trans hread
    cases hverified : verifyImage g v.img col with
    | false =>
      obtain ⟨t, hdone, -⟩ := cycle_end hleadsRead (htaken hverified) hchipRead.en .readInvalid
      exact ⟨_, t, _, _, _, by decide, hdone, nofun, by simp, by simp⟩
    | true =>
      obtain ⟨hatRead, hvalid⟩ := hpassed hverified
      obtain ⟨bs', w, -, -, hwrite, hchipWritten, hsame, hdiffers⟩ :=
        write_stage hatRead hchipRead hvalid
      have hleadsWritten := hleadsRead.trans hwrite
      cases hok : readbackOk g (imageOfBits (idNibble g col) bs') (buildPayload v.img) col with
      | false =>
        obtain ⟨t, hdone, -⟩ :=
          cycle_end hleadsWritten (hdiffers hok) hchipWritten.en .writeVerifyFailed
        exact ⟨_, t, _, _, _, by decide, hdone, nofun, by simp, by simp⟩
      | true =>
        obtain ⟨t, hdone, hfound, hcolor⟩ :=
          cycle_end hleadsWritten (hsame hok) hchipWritten.en (.success hchipWritten.found)
        exact ⟨_, t, _, _, _, by decide, hdone,
          fun _ => ⟨hfound.trans hchipWritten.found, by rw [hcolor]⟩, nofun, nofun⟩

/-- Settles O58: each way a cycle goes ends with its report and the tail. -/
theorem everyCycleReportsOnceAndReturnsToIdle : Obligations.EveryCycleReportsOnceAndReturnsToIdle := by
  intro s h hwf hupc hgo hr hx
  obtain ⟨n, t, before, kind, arg, hn, hdone, hsuccess, herror, hnothing⟩ :=
    exists_cycleDone (h.engineAt hwf hupc hr hx) hgo
  obtain ⟨hrun, hidle, hvalid, hkind, harg, hhist, hquiet⟩ := hdone
  obtain ⟨hupc, htrig, hpend, hgo, hen, hdir, himg, hpay, himgv, hpayv⟩ := hidle
  exact ⟨n, t, before, kind, arg, hn, hrun, hupc, htrig, hpend, hgo, hen, hdir, himg, hpay, himgv, hpayv,
    hvalid, hkind, harg, hhist, hquiet, hsuccess, herror, hnothing⟩

end Sys2Proof.Machine

namespace Sys2Proof.Machine

/-! ### Listed answers are the bits received (R16) -/

/-- Received bits agree with listed answers part by part. -/
theorem AnsweredBy.of_append {bs cs bs' cs' : List Bit} (h : AnsweredBy (bs ++ cs) (bs' ++ cs'))
    (hlen : bs.length = bs'.length) : bs = bs' ∧ AnsweredBy cs cs' := by
  unfold AnsweredBy at h ⊢
  rw [List.length_append, List.length_append, ← hlen, List.take_length_add_append, hlen,
    List.take_length_add_append] at h
  exact List.append_inj h hlen

/-- Enough listed answers are the bits received. -/
theorem AnsweredBy.eq_of_append {bs bs' rest : List Bit} (h : AnsweredBy bs (bs' ++ rest))
    (hlen : bs.length = bs'.length) : bs = bs' :=
  (AnsweredBy.of_append (cs := []) (by rwa [List.append_nil]) hlen).1

/-- The bits of the responses of the colors probed. -/
def probedBits (ack : Nibble) (r : PerColor Nibble) (cs : List Color) : List Bit :=
  (probed ack r cs).1.flatMap fun col => msbBits (r.get col) 4

theorem probedBits_length (ack : Nibble) (r : PerColor Nibble) (cs : List Color) :
    (probedBits ack r cs).length = 4 * (probed ack r cs).1.length := by
  simp [probedBits, List.length_flatMap, Nat.mul_comm]

/-- The bits of the first response, and those of the others where it is no ACK. -/
theorem probedBits_cons (ack : Nibble) (r : PerColor Nibble) (col : Color) (rest : List Color) :
    probedBits ack r (col :: rest) =
      msbBits (r.get col) 4 ++ if r.get col = ack then [] else probedBits ack r rest := by
  rw [probedBits, probed]
  split <;> simp [probedBits]

/-- Where the responses `r` are listed the chip's responses lead to the same probes and the same color. -/
theorem probed_eq_of_answeredBy {ack : Nibble} {r r' : PerColor Nibble} {cs : List Color} {rest : List Bit}
    (h : AnsweredBy (probedBits ack r' cs) (probedBits ack r cs ++ rest)) :
    probed ack r' cs = probed ack r cs := by
  induction cs with
  | nil => rfl
  | cons col cs ih =>
    rw [probedBits_cons, probedBits_cons, List.append_assoc] at h
    obtain ⟨hbits, hrest⟩ := h.of_append (by simp)
    have hcol : r'.get col = r.get col := by
      rw [← bitsValue_msbBits (r'.get col), hbits, bitsValue_msbBits]
    rw [hcol] at hrest
    rw [probed, probed, hcol]
    split
    · rfl
    next hack =>
      rw [if_neg hack, if_neg hack] at hrest
      rw [ih hrest]

/-! ### Counting the events of a cycle (R138) -/

theorem headerEvents_length (g : Config) : (headerEvents g false).length = 84 := by
  simp [headerEvents, pulseEvents, frameEvents_length]

/-- R104. -/
theorem discoverEvents_length_of_none {g : Config} {present : Bit} {r : PerColor Nibble}
    (h : foundColor g present r = none) :
    (discoverEvents g present false .output r).length = if present then 50 else 0 := by
  cases present with
  | false => rfl
  | true =>
    have hnone : (probed g.ack r probeOrder).2 = none := h
    have hprobes := probesEvents_length_at_rest g r (probed_probeOrder_ne_nil g.ack r)
    rw [probed_probeOrder_length, hnone] at hprobes
    simp [discoverEvents, hnone, hprobes]

/-- R104. -/
theorem discoverEvents_length_of_some {g : Config} {r : PerColor Nibble} {col : Color}
    (h : (probed g.ack r probeOrder).2 = some col) :
    (discoverEvents g true false .output r).length = 13 + 12 * (colorCode col).toNat := by
  have hprobes := probesEvents_length_at_rest g r (probed_probeOrder_ne_nil g.ack r)
  rw [probed_probeOrder_length, h] at hprobes
  rw [Option.elim_some] at hprobes
  simp only [discoverEvents, h, if_true, Option.isSome_some, List.append_nil, hprobes]
  omega

/-- R109. -/
theorem readEvents_length (g : Config) (en : Bit) (col : Color) (p : Profile) {bs : List Bit}
    (h : bs.length = 252) :
    (readEvents g en .output col p bs).length = if en then 261 else 262 := by
  cases en <;> simp [readEvents, pulseEvents, dirEvents, rxEvents, h]

theorem writeEvents_length (g : Config) (col : Color) (pay : Vector Byte 4) :
    (writeEvents g col pay).length = 44 := by
  simp [writeEvents, pulseEvents, payloadEvents_eq]

theorem trailerEvents_length (g : Config) : (trailerEvents g).length = 84 := by
  simp [trailerEvents, frameEvents_length]

/-- The report and the trailer come after the events of the stages. -/
theorem CycleDone.ends {g : Config} {n k : Nat} {s t : State} {before : List Event} {kind : Bit}
    {arg : BitVec 2} {o : CycleOutcome} (h : CycleDone g n s t before kind arg)
    (ho : outcomeOf kind arg = some o) (hk : before.length + 85 = k) : CycleEnds n s o k := by
  refine ⟨t, h.run, h.idle.upc, h.idle.go, ?_, ?_⟩
  · rw [portOutcome, h.outValid, if_pos rfl, h.outKind, h.outArg, ho]
  · simp only [h.hist, List.length_append, trailerEvents_length, List.length_singleton]
    omega

/-! ### The first stage that fails decides (R138) -/

/-- A color is read back from its code. -/
@[simp] theorem colorOfCode_colorCode (col : Color) : colorOfCode (colorCode col) = col := by
  cases col <;> rfl

section Outcome

variable {g : Config} {s u : State} {ev : List Event} {bs bs' rest : List Bit}

/-- A cycle whose stages come to 0x0E. -/
theorem cycleEnds_notFound {k : Nat} (hleads : Leads 4 s u ev) (hat : EngineAt g 0x0E u)
    (hen : u.en = false) (hk : ev.length + 85 = k) : CycleEnds 10 s .notFound k := by
  obtain ⟨t, hdone, -⟩ := cycle_end hleads hat hen .notFound
  exact hdone.ends rfl hk

/-- A cycle whose stages come to 0x04 with a chip that answers `bs` to the first read and `bs'` to the
read-back. -/
theorem cycleEnds_of_found {col : Color} (hleads : Leads 4 s u ev) (hat : EngineAt g 0x04 u)
    (hchip : HasChip col true u) (hanswers : u.answers = bs ++ (bs' ++ rest)) (hbs : bs.length = 252)
    (hbs' : bs'.length = 252) {k : Nat} (hk : ev.length = 97 + k) :
    (verifyImage g (imageOfBits (idNibble g col) bs) col = false →
      CycleEnds 13 s .readInvalid (443 + k)) ∧
    (verifyImage g (imageOfBits (idNibble g col) bs) col = true →
      if readbackOk g (imageOfBits (idNibble g col) bs')
          (buildPayload (imageOfBits (idNibble g col) bs)) col
      then CycleEnds 18 s (.success col) (749 + k)
      else CycleEnds 17 s .writeVerifyFailed (749 + k)) := by
  obtain ⟨bs₁, v, hlen, hdrawn, hleft, hread, hchipRead, himg, hpassed, htaken⟩ := read_stage hat hchip
  rw [hanswers] at hdrawn hleft
  obtain rfl := hdrawn.eq_of_append (hlen.trans hbs.symm)
  rw [List.drop_left' hlen] at hleft
  have hleadsRead := hleads.trans hread
  have hreadEvents : (readEvents g true .output col .dr bs₁).length = 261 :=
    readEvents_length g true col .dr hlen
  rw [himg] at hpassed htaken
  refine ⟨fun hbad => ?_, fun hgood => ?_⟩
  · obtain ⟨t, hdone, -⟩ := cycle_end hleadsRead (htaken hbad) hchipRead.en .readInvalid
    refine hdone.ends rfl ?_
    rw [List.length_append, hreadEvents, hk]
    omega
  · obtain ⟨hatRead, hvalid⟩ := hpassed hgood
    obtain ⟨bs₂, w, hlen', hdrawn', hwrite, hchipWritten, hsame, hdiffers⟩ :=
      write_stage hatRead hchipRead hvalid
    rw [hleft] at hdrawn'
    obtain rfl := hdrawn'.eq_of_append (hlen'.trans hbs'.symm)
    rw [himg] at hwrite hsame hdiffers
    have hleadsWritten := hleadsRead.trans hwrite
    have hcount : (ev ++ readEvents g true .output col .dr bs₁
        ++ (writeEvents g col (buildPayload (imageOfBits (idNibble g col) bs₁))
          ++ readEvents g false .output col .fast bs₂)).length + 85 = 749 + k := by
      have hbackEvents : (readEvents g false .output col .fast bs₂).length = 262 :=
        readEvents_length g false col .fast hlen'
      simp only [List.length_append, hreadEvents, writeEvents_length, hbackEvents, hk]
      omega
    split
    next hok =>
      obtain ⟨t, hdone, -⟩ :=
        cycle_end hleadsWritten (hsame hok) hchipWritten.en (.success hchipWritten.found)
      exact hdone.ends (by simp [outcomeOf, hchipWritten.color]) hcount
    next hok =>
      obtain ⟨t, hdone, -⟩ := cycle_end hleadsWritten (hdiffers (Bool.eq_false_iff.mpr hok))
        hchipWritten.en .writeVerifyFailed
      exact hdone.ends rfl hcount

end Outcome

/-- Settles O59: the stages one after the other, up to the first that fails. Where the chip is present its
responses to the probes are the listed ones. -/
theorem cycleOutcomeIsTheFirstFailingStage : Obligations.CycleOutcomeIsTheFirstFailingStage := by
  intro s r bs bs' rest h hwf hupc hgo hr hx hen hbs hbs' hanswers
  obtain ⟨sent, hheader, hatSent, henSent, hpresent, hlisted⟩ :=
    header_stage (h.engineAt hwf hupc hr hx) hgo
  obtain ⟨r', u, hresponses, hdiscover, hnone, hsome, hleft⟩ := discover_stage hatSent henSent
  have hleads := hheader.trans hdiscover
  rw [hlisted, hanswers, List.append_assoc, List.append_assoc] at hresponses hleft
  rw [hpresent] at hresponses hleads hnone hsome hleft
  rw [hen] at hleads
  have hprobed (hp : s.present = true) :
      probed s.cfg.ack r' probeOrder = probed s.cfg.ack r probeOrder :=
    probed_eq_of_answeredBy (hresponses hp)
  have hfound (hp : s.present = true) :
      foundColor s.cfg s.present r' = (probed s.cfg.ack r probeOrder).2 := by
    rw [foundColor, hp, if_pos rfl, hprobed hp]
  have hends (hno : foundColor s.cfg s.present r' = none) :
      CycleEnds 10 s .notFound (if s.present then 219 else 169) := by
    obtain ⟨hat, hen⟩ := hnone hno
    refine cycleEnds_notFound hleads hat hen ?_
    rw [List.length_append, headerEvents_length, discoverEvents_length_of_none hno]
    cases s.present <;> rfl
  refine ⟨fun hp => ?_, fun hp hno => ?_, fun hp col hcol => ?_⟩
  · simpa [hp] using hends (by rw [foundColor, hp]; rfl)
  · simpa [hp] using hends ((hfound hp).trans hno)
  · obtain ⟨hat, hchip⟩ := hsome col ((hfound hp).trans hcol)
    have hcount := discoverEvents_length_of_some ((congrArg Prod.snd (hprobed hp)).trans hcol)
    have hreads : u.answers = bs ++ (bs' ++ rest) := by
      rw [hleft hp, hprobed hp]
      exact List.drop_left' (probedBits_length ..)
    refine cycleEnds_of_found hleads hat hchip hreads hbs hbs' ?_
    rw [List.length_append, headerEvents_length, hp, hcount]
    omega

end Sys2Proof.Machine

namespace Sys2Proof.Machine

/-! ### An operation raises its fault or leaves the fault registers (60_exceptions.md R142, R144, R145) -/

/-- No operation is a writer of the fault registers (R32): only a fault sets them. -/
theorem completed_faultRegs {i : Instr} {s : State} (hf : faultOf i s = none) :
    (completed i s).fault = s.fault ∧ (completed i s).fcause = s.fcause ∧
      (completed i s).fupc = s.fupc := by
  have hregs := completed_keeps (fun u => (u.fault, u.fcause, u.fupc)) hf fun _ => by cases i <;> rfl
  simpa only [Prod.mk.injEq] using hregs

/-- Settles O29: `exec` checks for the fault of the table and completes where there is none. -/
theorem operationsRaiseExactlyTheirFaults : Obligations.OperationsRaiseExactlyTheirFaults :=
  fun _ _ => ⟨fun _ => exec_of_faultOf_eq_some,
    fun hf => ⟨_, exec_of_faultOf_eq_none hf, completed_faultRegs hf⟩⟩

/-! ### The faulted engine (60_exceptions.md R146) -/

theorem engineEnabled_of_fault {s : State} (hf : s.fault = true) : engineEnabled s = false := by
  rw [engineEnabled, hf, Bool.not_true, Bool.false_and]

/-- A turn taken after a fault, a change of RESET aside, is answered, and it writes what the trigger unit
and the `GND_DET` pin write; the engine's writes nothing. -/
theorem takeTurn_of_fault {x : Turn} {s : State} (hr : s.resetIn = false) (hf : s.fault = true)
    (hx : ∀ b, x ≠ .setReset b) :
    ∃ t : State, takeTurn x s = .next t ∧
      t = { s with edgePend := t.edgePend, go := t.go, present := t.present } ∧
      (x = .engine → t = s) := by
  cases x with
  | engine => exact ⟨s, takeTurn_engine_passes hr (engineEnabled_of_fault hf), rfl, fun _ => rfl⟩
  | edge => exact ⟨edgeStep s, takeTurn_edge hr, rfl, nofun⟩
  | deliver =>
    cases hen : deliverEnabled s with
    | true => exact ⟨deliverStep s, takeTurn_deliver hr hen, rfl, nofun⟩
    | false => exact ⟨s, takeTurn_deliver_passes hr hen, rfl, nofun⟩
  | setPresent b => exact ⟨{ s with present := b }, rfl, rfl, nofun⟩
  | setReset b => exact absurd rfl (hx b)

/-- After a fault the turn with an empty agenda is the trigger unit's, or nobody's. -/
theorem idleTurn_of_fault {s : State} (hr : s.resetIn = false) (hf : s.fault = true) :
    idleTurn s = if deliverEnabled s then .next (deliverStep s) else .fault .engineHalted := by
  rw [idleTurn_of_not_engineEnabled hr (engineEnabled_of_fault hf), if_pos hf]

/-- Settles O42: with the engine disabled only the trigger unit and the inputs are left. -/
theorem faultedEngineTakesNoStep : Obligations.FaultedEngineTakesNoStep := by
  intro s hwf hr hf
  refine ⟨fun x rest hx hreset => ?_, fun hx htrig hpend => ?_, fun hx hoff => ?_⟩
  · rw [step_of_agenda hwf hx]
    exact takeTurn_of_fault (s := { s with agenda := rest }) hr hf hreset
  · have hen : deliverEnabled s = true := by rw [deliverEnabled, htrig, hpend, Bool.and_self]
    rw [step_of_empty_agenda hwf hx, idleTurn_of_fault hr hf, if_pos hen]
    rfl
  · have hen : ¬ deliverEnabled s = true := Bool.eq_false_iff.mp hoff
    rw [step_of_empty_agenda hwf hx, idleTurn_of_fault hr hf, if_neg hen]

/-! ### The re-arm window (60_exceptions.md R147, R148, R150) -/

/-- R148: what has to be delivered is the latch. -/
theorem deliverEnabled_of_not_pending {s : State} (h : s.edgePend = false) :
    deliverEnabled s = false := by
  rw [deliverEnabled, h, Bool.and_false]

/-- R147, R148: once an edge is latched, `TRIG_EN` alone decides on its delivery. -/
theorem deliverEnabled_edgeStep (s : State) : deliverEnabled (edgeStep s) = s.trigEn := by
  rw [deliverEnabled, edgeStep_edgePend, edgeStep_trigEn, Bool.and_true]

/-- R126: ARM overwrites the one register an edge before it has written. -/
theorem exec_arm_edgeStep (s : State) : exec .arm (edgeStep s) = exec .arm s := rfl

/-- R126: where ARM has been, the latch is clear and the trigger source enabled. -/
theorem exec_arm_rearms {s t : State} (h : exec .arm s = .next t) :
    t.edgePend = false ∧ t.trigEn = true := by
  cases h
  exact ⟨rfl, rfl⟩

/-- Settles O45: ARM clears the latch before it, and enables the delivery of an edge after it, on which
WAIT_GO passes. -/
theorem armDecidesTheRearmWindow : Obligations.ArmDecidesTheRearmWindow := by
  intro s
  refine ⟨exec_arm_edgeStep s, fun t ht => ?_⟩
  obtain ⟨hclear, henabled⟩ := exec_arm_rearms ht
  have hgo : (deliverStep (edgeStep t)).go = true := rfl
  have hpasses := waitGoPassesOnPendingTrigger.2 (deliverStep (edgeStep t)) hgo
  exact ⟨deliverEnabled_of_not_pending hclear, (deliverEnabled_edgeStep t).trans henabled, hgo,
    _, hpasses, rfl⟩

end Sys2Proof.Machine

namespace Sys2Proof.Machine

/-! ### The state tuple under RESET (70_reset_and_hazards.md R166) -/

/-- RESET is an input: no operation writes its level (R18). -/
theorem exec_resetIn {i : Instr} {s t : State} (h : exec i s = .next t) : t.resetIn = s.resetIn :=
  exec_keeps (·.resetIn) h fun _ => by cases i <;> rfl

/-- A turn that can change the tuple is one of an agent, taken with RESET released and leaving it so, or one
that puts the tuple at reset. -/
theorem Moves.atReset {s t : State} (hm : Moves s t) (h : s.resetIn = true → s.toArch = Arch.reset)
    (ht : t.resetIn = true) : t.toArch = Arch.reset := by
  cases hm with
  | reset => exact applyReset_toArch s
  | ran hr _ _ hexec => exact nomatch hr.symm.trans ((exec_resetIn hexec).symm.trans ht)
  | illegal hr | latched hr | delivered hr | passed hr => exact nomatch hr.symm.trans ht
  | presentSet => exact h ht
  | resetSet b =>
    cases b with
    | true => exact applyReset_toArch { s with resetIn := true }
    | false => exact nomatch ht

/-- Settles O47: a step is one turn, and using up its place in the agenda leaves the tuple and RESET. -/
theorem stateTupleIsAtResetUnderReset : Obligations.StateTupleIsAtResetUnderReset :=
  fun _ _ h hstep => (step_moves hstep).atReset h

/-- While RESET is asserted the turn of any agent puts the tuple at reset (log entry 16). -/
theorem takeTurn_of_resetIn {x : Turn} {s : State} (hr : s.resetIn = true)
    (hx : x = .engine ∨ x = .edge ∨ x = .deliver) : takeTurn x s = .next (applyReset s) := by
  obtain rfl | rfl | rfl := hx <;> exact if_pos hr

theorem idleTurn_of_resetIn {s : State} (hr : s.resetIn = true) :
    idleTurn s = .next (applyReset s) := if_pos hr

/-- Settles O46: the two turns that change an input ask for nothing, and the other clauses are the turns
above. -/
theorem resetTakesPrecedence : Obligations.ResetTakesPrecedence := by
  intro s rest hwf
  refine ⟨fun hx => step_of_agenda hwf hx, fun hx => step_of_agenda hwf hx, fun hr x hagent hx => ?_,
    fun hr hx => ?_, fun _ b hx => step_of_agenda hwf hx⟩
  · exact (step_of_agenda hwf hx).trans
      (takeTurn_of_resetIn (s := { s with agenda := rest }) hr hagent)
  · exact (step_of_empty_agenda hwf hx).trans (idleTurn_of_resetIn hr)

/-! ### The reset state (70_reset_and_hazards.md R166, R167) -/

/-- Settles O55: RESET leads the reset state back to itself, and what it leaves is sound once the ROM is;
with nothing listed, the ROM is in canonical form. -/
theorem resetStateIsSound : Obligations.ResetStateIsSound :=
  have hrom : RomSound State.reset := rfl
  StateSound.applyReset hrom

/-- Settles O57: nothing is listed in the ROM, so it holds the cycle program, and `upc` is its start. -/
theorem resetStartsTheCycleProgram : Obligations.ResetStartsTheCycleProgram where
  rom := rfl
  running := rfl
  point := cyclePoint_applyReset State.reset

end Sys2Proof.Machine
